-- ==== Sys2Proof/Word.lean ====
section
/-! DEFINITION. The word types of the block (spec/00_scope.md rules R5, R8). The block's five counters are unsigned numbers of an
open width (rule R6) and are held as natural numbers below `2 ^ W`; only what the spec treats as bits is a bit vector. -/

namespace Sys2Proof

/-- A drive pattern, a slot of the LED sequence, the output latch: 8 bits (`PAT_W`, rule R5). -/
abbrev Byte := BitVec 8

/-- The time word: 11 bits (`TW_W`, rule R5). -/
abbrev TimeWord := BitVec 11

/-- The stimulus word: 5 bits (spec/30_encoding.md rule R76). -/
abbrev StimWord := BitVec 5

end Sys2Proof
end

