-- ==== Sys2Proof/Config.lean ====
section
/-! DEFINITION. What an implementation of the block fixes: the constants of spec/00_scope.md rule R5, the open parameters of rule R6
as one plain record, and the free values (opaque, without a body) that stand where the spec gives no value. -/

namespace Sys2Proof

/-! ## Constants of rule R5 -/

/-- `N_SLOTS`: slots of the LED sequence. -/
abbrev nSlots : Nat := 11
/-- `MIN_SHIFT`: left shift of `hours` in the time word. -/
abbrev minShift : Nat := 6
/-- `SENTINEL`: the end marker of a sequence. -/
abbrev sentinel : Byte := 0#8
/-- `SEC_MOD`: rollover value of `seconds`. -/
abbrev secMod : Nat := 60
/-- `MIN_MOD`: rollover value of `minutes`. -/
abbrev minMod : Nat := 60
/-- `HOUR_MOD`: rollover value of `hours`. -/
abbrev hourMod : Nat := 24
/-- `DEB_THRESHOLD`, in loop passes. -/
abbrev debThreshold : Nat := 10
/-- `SLEEP_THRESHOLD`, in ticks. -/
abbrev sleepThreshold : Nat := 25

/-! ## Open parameters of rule R6 -/

/-- A selector of the encoding table (spec/30_encoding.md rule R72): one bit of the time word, or none (the zero mask). Clause T4 of
spec/40_encoder.md rule R106, "at most one bit set", is this type. DEDUCED, log entry 12; safe. -/
abbrev Selector := Option (Fin 11)

/-- One pair `(sel_k, pat_k)` of the encoding table (R72); clause T2 of R106 is the type of `pat`. -/
structure Entry where
  sel : Selector
  pat : Byte
deriving DecidableEq, Repr, Inhabited

/-- `ENC_TABLE`: exactly 11 entries in a fixed order (clause T1 of R106 is this type). -/
abbrev EncTable := Vector Entry 11

/-- `ROLL_CMP`, the meaning of "reaches" in the rollover checks (spec/41_clock.md rule R121). -/
inductive RollCmp where
  /-- `EQ`: the value equals the modulus. -/
  | eq
  /-- `GE`: the value is at or above the modulus. -/
  | ge
deriving DecidableEq, Repr, Inhabited

/-- `EDGE_EVAL`, how the three input checks share the debounce counter (spec/42_input_debounce.md rules R144, R145). -/
inductive EdgeEval where
  /-- `SEQ`: one after another, each reading `deb` as the one before left it. -/
  | seq
  /-- `PAR`: the threshold is tested once, on `deb` as the `EDGE` found it. -/
  | par
deriving DecidableEq, Repr, Inhabited

/-- The configuration record `cfg` of rule R6; each value is "the same for the whole run". DESIGN CHOICE, log entry 1: the
record is carried by the machine's state, written by no step, so that a claim about every state is a claim about every
configuration; safe. -/
structure Config where
  /-- `ENC_TABLE`. -/
  encTable : EncTable
  /-- `IDLE_PATTERN`. -/
  idlePattern : Byte
  /-- `W_HOURS`. -/
  wHours : Nat
  /-- `W_MIN`. -/
  wMin : Nat
  /-- `W_SEC`. -/
  wSec : Nat
  /-- `W_DEB`. -/
  wDeb : Nat
  /-- `W_INACT`. -/
  wInact : Nat
  /-- `ROLL_CMP`. -/
  rollCmp : RollCmp
  /-- `EDGE_EVAL`. -/
  edgeEval : EdgeEval
  /-- `PORT_RESET`, what the output latch holds after a power-on: "any 8-bit value" (spec/10_state.md rule R35). -/
  portReset : Byte
deriving DecidableEq, Repr, Inhabited

/-! ## Free values

Opaque constants: nothing can be proved of what they are, so whatever is proved holds whatever they are. -/

/-- The contents of the encoding table of the chip at hand: not in the source (spec/91_not_in_source.md N3). Log entry 2; safe. -/
opaque Config.chipEncTable : EncTable

/-- The idle pattern of the chip at hand: not in the source (N4). Log entry 2; safe. -/
opaque Config.chipIdlePattern : Byte

/-- The rollover comparison of the chip at hand: open, with no default (N6, decision D5). Log entry 2; safe. -/
opaque Config.chipRollCmp : RollCmp

/-- `PORT_RESET` of the chip at hand, a draw: "unspecified: any value" (R6, spec/91_not_in_source.md N9). Log entry 3; safe. -/
opaque Config.chipPortReset : Byte

/-- The environment's `n`-th free choice of the next stimulus (spec/00_scope.md rule R11: "it chooses which stimulus comes next").
DESIGN CHOICE, log entry 4; safe. -/
opaque Config.envStimulus : Nat → StimWord

/-- The configuration the block has at `State.reset`: the defaults of rule R6 where it gives one (the widths, `EDGE_EVAL`), free
values where it gives none. DESIGN CHOICE, log entry 2: "not a claim about the hardware" (R6); unsafe for a claim that rests on
the defaults. -/
def Config.chip : Config where
  encTable := Config.chipEncTable
  idlePattern := Config.chipIdlePattern
  wHours := 8
  wMin := 8
  wSec := 8
  wDeb := 8
  wInact := 8
  rollCmp := Config.chipRollCmp
  edgeEval := .seq
  portReset := Config.chipPortReset

end Sys2Proof
end

