-- ==== Sys2Proof/Syntax.lean ====
section
/-! DEFINITION. The operations of the block: one constructor for each of the 16 rows of spec/opcode_table.json (spec/30_encoding.md
rule R83): four stimuli, eleven sub-operations, one fault step. -/

namespace Sys2Proof

/-- The sampled level of one of the three active-low input lines (spec/30_encoding.md rule R75): bit 0 is `low`, which means
pressed; bit 1 is `high`, released. -/
inductive Level where
  | low
  | high
deriving DecidableEq, Repr, Inhabited

/-- The operations of spec/opcode_table.json, in the table's order. -/
inductive Instr where
  /-- `STEP`, one unit of progress of `MAIN` (R180). -/
  | step
  /-- `TICK`, the real-time tick handler (R120). -/
  | tick
  /-- `EDGE(ph, pm, pw)`, the pin-change handler with the sampled levels of the hours, minutes and wake lines (R140). -/
  | edge (ph pm pw : Level)
  /-- `RESET`, power-on (R240). -/
  | reset
  /-- `ENCODE`, the refresh `seq <- Encode(hours, minutes)` (R100). -/
  | encode
  /-- `ADJ_H` (R123). -/
  | adjH
  /-- `ADJ_M` (R124). -/
  | adjM
  /-- `CHK_H`, the hours-adjust check (R141). -/
  | chkH (ph : Level)
  /-- `CHK_M`, the minutes-adjust check (R142). -/
  | chkM (pm : Level)
  /-- `CHK_W`, the wake check (R143). -/
  | chkW (pw : Level)
  /-- `GATE`, the power gate (R161). -/
  | gate
  /-- `SLEEP_ENTRY` (R162). -/
  | sleepEntry
  /-- `WAKEUP` (R163). -/
  | wakeup
  /-- `WALK`, emit one slot (R181). -/
  | walk
  /-- `PASS_END` (R182). -/
  | passEnd
  /-- `WALK_OVERRUN`, the fault step (R183). -/
  | walkOverrun
deriving DecidableEq, Repr

end Sys2Proof
end

