-- ==== Sys2Proof/WellFormed.lean ====
section
/-! DEFINITION. The checks the spec puts on what it is given: the widths of a configuration (spec/00_scope.md rule R7), the clauses T1
to T5 of an encoding table (spec/40_encoder.md rule R106), and which operations may be offered as stimuli (spec/30_encoding.md
rule R79). Each check is a Bool, or an abbreviation of a decidable proposition. -/

namespace Sys2Proof

/-- The least widths of rules R6 and R7. A configuration that breaks one is ill-formed and `step` refuses it. -/
def Config.widthsOk (c : Config) : Bool :=
  5 ≤ c.wHours && 6 ≤ c.wMin && 6 ≤ c.wSec && 4 ≤ c.wDeb && 5 ≤ c.wInact

/-- Clause T4 of R106 as a check on an 11-bit mask: the zero mask is the empty selector, a mask of exactly one bit selects that
bit, and a mask of two or more bits is refused. -/
def selectorOfMask (m : TimeWord) : Option Selector :=
  if m = 0#11 then some none
  else ((List.finRange 11).find? fun b => 1#11 <<< b.val == m).map some

/-- The clauses T1, T2 and T4 of R106 as a check on a raw list of (mask, pattern) pairs: anything but 11 pairs, or a mask of two or
more bits, is refused (spec/93_implementation_defined.md I8). -/
def tableOfMasks (rows : List (TimeWord × Byte)) : Option EncTable :=
  match rows.mapM fun r => (selectorOfMask r.1).map fun sel => Entry.mk sel r.2 with
  | some es => if h : es.toArray.size = 11 then some ⟨es.toArray, h⟩ else none
  | none => none

/-- Clause T3 of R106, premise `TableNonzero`: an entry that can match has a non-zero pattern. -/
abbrev TableNonzero (c : Config) : Prop :=
  ∀ e ∈ c.encTable.toList, e.sel ≠ none → e.pat ≠ sentinel

/-- Clause T5 of R106, premise `TablePos0Inert`: position 0 matches no time word. -/
abbrev TablePos0Inert (c : Config) : Prop :=
  c.encTable[0].sel = none

/-- A well-formed stimulus: one of the four operations that have a word of their own (R77). A sub-operation "has no encoding of its
own" (R79): the state selects it, the environment cannot offer it. -/
def Instr.wf : Instr → Bool
  | .step => true
  | .tick => true
  | .edge _ _ _ => true
  | .reset => true
  | .encode => false
  | .adjH => false
  | .adjM => false
  | .chkH _ => false
  | .chkM _ => false
  | .chkW _ => false
  | .gate => false
  | .sleepEntry => false
  | .wakeup => false
  | .walk => false
  | .passEnd => false
  | .walkOverrun => false

end Sys2Proof
end

