-- ==== Sys2Proof/Decode.lean ====
section
/-! DEFINITION. The 5-bit stimulus word (spec/30_encoding.md rules R76 to R78), decoded and encoded, and the script notation of rules
R80 and R81. Only the four stimuli have words (R79); log entry 6. -/

namespace Sys2Proof

/-! ## Fields of the stimulus word (R76) -/

/-- Bits 4:3, the field `kind`. -/
def kindField (w : StimWord) : BitVec 2 := w.extractLsb' 3 2

/-- One pin-level bit: 0 is logic-low, pressed (R75). -/
def Level.ofBit (b : Bool) : Level := if b then .high else .low

/-- The bit of a pin level (R75). -/
def Level.bit : Level → Bool
  | .low => false
  | .high => true

/-! ## Decoding -/

/-- The stimulus a 5-bit word stands for. Every one of the 32 words decodes (R78); for `STEP`, `TICK` and `RESET` bits 2:0 are
ignored (R77); for `EDGE` bit 0 is `ph`, bit 1 `pm`, bit 2 `pw` (R76). -/
def decodeWord (w : StimWord) : Instr :=
  match (kindField w).toNat with
  | 0 => .step
  | 1 => .tick
  | 2 => .edge (.ofBit (w.getLsbD 0)) (.ofBit (w.getLsbD 1)) (.ofBit (w.getLsbD 2))
  | _ => .reset

/-- Why a row of bytes is not a script of stimulus words. Each is safe: the reading stops. -/
inductive DecodeError where
  /-- There is no byte where a stimulus word should stand. -/
  | noWord
  /-- A byte with a bit above bit 4 set holds no 5-bit word ("There is one length (5 bits)", R78). DESIGN CHOICE, log entry 6. -/
  | notFiveBits (b : Byte)
deriving DecidableEq, Repr

/-- One stimulus written as one byte, as the test vectors write it (`0x07`, `0x16`; spec/95_test_vectors.md section 10). -/
def decodeByte (b : Byte) : Except DecodeError Instr :=
  if b.toNat < 32 then .ok (decodeWord (b.setWidth 5)) else .error (.notFiveBits b)

/-- The first stimulus of a row of bytes, with the bytes left over. Total on any bytes. -/
def decode : List Byte → Except DecodeError (Instr × List Byte)
  | [] => .error .noWord
  | b :: rest =>
    match decodeByte b with
    | .ok i => .ok (i, rest)
    | .error e => .error e

/-- A whole row of bytes, one stimulus a byte. -/
def decodeScript : List Byte → Except DecodeError (List Instr)
  | [] => .ok []
  | b :: rest =>
    match decodeByte b with
    | .error e => .error e
    | .ok i =>
      match decodeScript rest with
      | .ok is => .ok (i :: is)
      | .error e => .error e

/-! ## Encoding -/

/-- The word `10wmh` of an `EDGE` (R77). -/
def edgeWord (ph pm pw : Level) : StimWord :=
  2#2 ++ BitVec.ofBool pw.bit ++ BitVec.ofBool pm.bit ++ BitVec.ofBool ph.bit

/-- The canonical word of a stimulus (R77): ignored bits are `111`. A sub-operation has none (R79). -/
def encode : Instr → Option StimWord
  | .step => some 0x07#5
  | .tick => some 0x0F#5
  | .edge ph pm pw => some (edgeWord ph pm pw)
  | .reset => some 0x1F#5
  | .encode => none
  | .adjH => none
  | .adjM => none
  | .chkH _ => none
  | .chkM _ => none
  | .chkW _ => none
  | .gate => none
  | .sleepEntry => none
  | .wakeup => none
  | .walk => none
  | .passEnd => none
  | .walkOverrun => none

/-- The bytes of a script of stimuli; none where one of them has no word. -/
def encodeScript : List Instr → Option (List Byte)
  | [] => some []
  | i :: is =>
    match encode i, encodeScript is with
    | some w, some bs => some (w.setWidth 8 :: bs)
    | _, _ => none

/-- The canonical spelling of a word (R76): "The canonical spelling of a kind that ignores them sets them to `111`". -/
def canonicalWord (w : StimWord) : StimWord :=
  if kindField w = 2#2 then w else w ||| 7#5

/-! ## The opcode table's words -/

/-- The low `nbits` bits of `w` as bytes, the first byte the least significant. -/
def tableBytes : Nat → Nat → List Byte
  | 0, _ => []
  | n + 1, w => BitVec.ofNat 8 w :: tableBytes n (w / 256)

/-- What the decoder reads from a row's word: its first byte, decoded; a word with any further byte non-zero is none. -/
def decodeTableWord (nbits w : Nat) : Option Instr :=
  match decode (tableBytes ((nbits + 7) / 8) w) with
  | .ok (i, rest) => if rest.all (· == 0#8) then some i else none
  | .error _ => none

/-! ## Script notation (R80, R81) -/

/-- The written form of a pin level: `0` low, `1` high (R80). -/
def Level.text : Level → String
  | .low => "0"
  | .high => "1"

/-- The script item of a stimulus (R80); `EDGE` is written with its operands in the order hours, minutes, wake, the reverse of their
bit positions. A sub-operation has no script form. -/
def scriptText : Instr → Option String
  | .step => some "STEP"
  | .tick => some "TICK"
  | .edge ph pm pw => some ("EDGE " ++ ph.text ++ " " ++ pm.text ++ " " ++ pw.text)
  | .reset => some "RESET"
  | .encode => none
  | .adjH => none
  | .adjM => none
  | .chkH _ => none
  | .chkM _ => none
  | .chkW _ => none
  | .gate => none
  | .sleepEntry => none
  | .wakeup => none
  | .walk => none
  | .passEnd => none
  | .walkOverrun => none

/-- `PRESS_H`: `EDGE 0 1 1` (R81). -/
def pressH : List StimWord := [0x16#5]
/-- `PRESS_M`: `EDGE 1 0 1` (R81). -/
def pressM : List StimWord := [0x15#5]
/-- `PRESS_W`: `EDGE 1 1 0` (R81). -/
def pressW : List StimWord := [0x13#5]
/-- `RELEASE`: `EDGE 1 1 1` (R81). -/
def release : List StimWord := [0x17#5]
/-- `SECONDS n`: `n x TICK` (R81). -/
def secondsWords (n : Nat) : List StimWord := List.replicate n 0x0F#5
/-- `PASS` for a sequence of length `n`: `n + 2` times `STEP` (R81), from `mpc = GATE` with `inact < 25`. -/
def passWords (n : Nat) : List StimWord := List.replicate (n + 2) 0x07#5

end Sys2Proof
end

