-- ==== Sys2Proof/Machine/State.lean ====
section
/-! DEFINITION. The state of the block: the record of spec/10_state.md rule R20, the write trace of spec/00_scope.md rule R13, the
configuration record of rule R6, and the model's own fields for the environment's choices. Plain data throughout. -/

namespace Sys2Proof.Machine

/-- The sequencer position `mpc`, one of 14 values (spec/10_state.md rule R27). -/
inductive Mpc where
  /-- About to test the power gate. -/
  | gate
  /-- About to read slot `i` of `seq`; `WALK(11)` is outside the buffer and its only step is the fault `WALK_OVERRUN`. -/
  | walk (i : Fin 12)
  /-- Parked in the suspend primitive. -/
  | susp
deriving DecidableEq, Repr, Inhabited

/-- The power phase (spec/10_state.md rule R28), read off `mpc`. -/
inductive Phase where
  /-- ACTIVE. -/
  | active
  /-- SLEEPING. -/
  | sleeping
deriving DecidableEq, Repr

/-- The block's faults (spec/60_exceptions.md rule R201; "The table is complete"). A fault is recorded in the field `State.fault` by a
step that answers a next state; no step of this model ends with `Host.Outcome.fault`. -/
inductive Fault where
  /-- `WALK_OVERRUN`, code 1: raised by `STEP` at `mpc = WALK(11)` (spec/44_display_loop.md rule R183). Safe: "the chip would go on
  (reading whatever lies past the buffer), the model stops". -/
  | walkOverrun
deriving DecidableEq, Repr

/-- Why the model has no step. -/
inductive Refusal where
  /-- An operation of the opcode table without a meaning. No arm of `exec` answers it. Safe. -/
  | notModelled (mnemonic : String)
  /-- Raised by `step` where a width of the configuration is below the bound of spec/00_scope.md rule R7: "A configuration that breaks
  one is ill-formed and the model refuses it". Safe. -/
  | illFormedConfig
deriving DecidableEq, Repr

/-- The space `SEQ` (spec/20_memory.md rule R50) as a list of (slot, byte) cells in one canonical form. -/
abbrev Memory := List Host.Cell

/-- What an unlisted slot reads as: the reset contents 0x00 (spec/10_state.md rule R35). -/
abbrev Memory.unlisted : Byte := sentinel

/-- The canonical form: slots strictly rising, each one of the 11 slots, no cell equal to what an unlisted slot reads as. -/
abbrev Memory.wf (m : Memory) : Prop :=
  (m.map Prod.fst).Pairwise (· < ·) ∧ ∀ c ∈ m, c.1 < nSlots ∧ c.2 ≠ Memory.unlisted

/-- The whole state. The counters are unsigned numbers; that each stays below `2 ^ W` is the invariant `CountersFit` of
Sys2Proof/Safety.lean (log entry 11). -/
@[ext]
structure State where
  /-- The configuration record `cfg` (spec/00_scope.md rule R6); no step writes it (log entry 1). -/
  cfg : Config
  /-- `hours` (R21). -/
  hours : Nat
  /-- `minutes` (R22). -/
  minutes : Nat
  /-- `seconds` (R23). -/
  seconds : Nat
  /-- `deb`, the debounce counter (R24). -/
  deb : Nat
  /-- `inact`, the inactivity counter (R25). -/
  inact : Nat
  /-- `seq`, the LED sequence (R26). -/
  seq : Memory
  /-- `mpc`, the sequencer position (R27). -/
  mpc : Mpc
  /-- `port`, the output latch (R29). -/
  port : Byte
  /-- `fault`, sticky (R30). -/
  fault : Option Fault
  /-- The write trace, oldest write first (spec/00_scope.md rule R13, spec/20_memory.md rule R54). -/
  trace : List Byte
  /-- MODEL: the stimulus words the environment has lined up, the next one first (log entry 4). -/
  stims : List StimWord
  /-- MODEL: how many stimuli the environment has chosen freely, the index of `Config.envStimulus` (log entry 4). -/
  envDraws : Nat
deriving DecidableEq, Repr

/-- The state right after power-on (spec/10_state.md rule R35, spec/70_reset_and_hazards.md rule R240): counters 0, `seq` all 0x00,
`mpc = GATE`, `fault = none`, trace empty, `port` the `PORT_RESET` of the configuration (log entry 3), the configuration of the chip at hand (log entry 2),
nothing lined up by the environment (log entry 4). -/
def State.reset : State where
  cfg := Config.chip
  hours := 0
  minutes := 0
  seconds := 0
  deb := 0
  inact := 0
  seq := []
  mpc := .gate
  port := Config.chip.portReset
  fault := none
  trace := []
  stims := []
  envDraws := 0

end Sys2Proof.Machine
end

