-- ==== Sys2Proof/Machine/Operands.lean ====
section
/-! DEFINITION. The values the operations compute with: the wrapping increment, the time word, a selector's test, a pressed line, and
one slot of the sequence. -/

namespace Sys2Proof.Machine

/-- `x +_W 1`: an increment that wraps at the width `W` (spec/00_scope.md rule R8, spec/41_clock.md rule R128). -/
def incW (W x : Nat) : Nat := (x + 1) % 2 ^ W

/-- The time word `tw = trunc_11((hours << 6) XOR minutes)` (spec/30_encoding.md rule R70). XOR for every input, in range or not. -/
def timeWord (h m : Nat) : TimeWord := BitVec.ofNat 11 ((h <<< minShift) ^^^ m)

/-- The 11-bit mask of a selector (spec/30_encoding.md rule R72). -/
def selMask : Selector → TimeWord
  | none => 0#11
  | some b => 1#11 <<< b.val

/-- `(tw AND sel_k) != 0` (spec/30_encoding.md rule R72). -/
def selects (sel : Selector) (tw : TimeWord) : Bool := tw &&& selMask sel != 0#11

/-- The line is at logic-low, which for these active-low inputs means pressed (spec/30_encoding.md rule R75). -/
def pressed : Level → Bool
  | .low => true
  | .high => false

/-- `MemRead(SEQ, i, 1)`: the byte of slot `i` as last written (spec/20_memory.md rule R51). -/
def readSlot : Memory → Nat → Byte
  | [], _ => Memory.unlisted
  | c :: m, i => if c.1 = i then c.2 else readSlot m i

end Sys2Proof.Machine
end

