-- ==== Sys2Proof/Machine/Flags.lean ====
section
/-! DEFINITION. The conditions the operations test. The block has no flag register (spec/41_clock.md rule R128: "No overflow is
detected or reported"); every condition is a comparison on a counter, unsigned. -/

namespace Sys2Proof.Machine

/-- `roll(x, N)`: `x` has reached `N`, by equality or at-least as `ROLL_CMP` says (spec/41_clock.md rule R121). -/
def roll (cmp : RollCmp) (x N : Nat) : Bool :=
  match cmp with
  | .eq => x == N
  | .ge => N ≤ x

/-- `deb >= 10`, the debounce test (spec/42_input_debounce.md rule R147). -/
def debReady (deb : Nat) : Bool := debThreshold ≤ deb

/-- `inact >= 25`, the power gate's test (spec/43_power.md rule R161): always at-least, whatever `ROLL_CMP` is. -/
def sleepDue (inact : Nat) : Bool := sleepThreshold ≤ inact

/-- A check accepts: its line is pressed and the debounce test holds (spec/42_input_debounce.md rule R141). -/
def accepts (l : Level) (deb : Nat) : Bool := pressed l && debReady deb

end Sys2Proof.Machine
end

