-- ==== Sys2Proof/Machine/Ops.lean ====
section
/-! DEFINITION. The named operations over the state: the whole-buffer write of `SEQ`, the write of `PORT`, the encoder, raising the
block's fault, entering and leaving a handler, power-on, and how the next stimulus is taken. -/

namespace Sys2Proof.Machine

/-! ## Single fields -/

/-- `mpc <- target` (spec/00_scope.md rule R9). -/
def State.setMpc (t : Mpc) (s : State) : State := { s with mpc := t }

/-- `deb <- n`. -/
def State.setDeb (n : Nat) (s : State) : State := { s with deb := n }

/-- `inact <- n`. -/
def State.setInact (n : Nat) (s : State) : State := { s with inact := n }

/-- `hours <- hours +_W 1`, with no test against 24 (spec/10_state.md rule R21). -/
def State.incHours (s : State) : State := { s with hours := incW s.cfg.wHours s.hours }

/-- `minutes <- minutes +_W 1`, with no test against 60 (spec/10_state.md rule R22). -/
def State.incMinutes (s : State) : State := { s with minutes := incW s.cfg.wMin s.minutes }

/-! ## `SEQ` and `PORT` -/

/-- The cells of a row of slots, the first of them slot `i`: the canonical form leaves out what reads as 0x00 anyway. -/
def cellsFrom (i : Nat) : List Byte → Memory
  | [] => []
  | b :: bs => if b = Memory.unlisted then cellsFrom (i + 1) bs else (i, b) :: cellsFrom (i + 1) bs

/-- `seq <- V`: all 11 slots in one atomic action; "There is no single-slot write" (spec/20_memory.md rule R52). -/
def State.storeSeq (V : List Byte) (s : State) : State := { s with seq := cellsFrom 0 V }

/-- `port <- v`: the latch takes `v` and the write trace gains `v` (spec/20_memory.md rule R54). -/
def State.writePort (v : Byte) (s : State) : State := { s with port := v, trace := s.trace ++ [v] }

/-! ## The encoder -/

/-- The walk of spec/40_encoder.md rule R102 over the table in table order: each matching entry puts its pattern into the next free
slot `n` of `V`. -/
def encodeWalk (tw : TimeWord) : List Entry → List Byte → Nat → List Byte
  | [], V, _ => V
  | e :: es, V, n =>
    if selects e.sel tw then encodeWalk tw es (V.set n e.pat) (n + 1) else encodeWalk tw es V n

/-- `Encode(h, m)`: the 11 slots of the LED sequence (spec/40_encoder.md rule R100), zeros from the first free slot on (R103). -/
def encodeSlots (c : Config) (h m : Nat) : List Byte :=
  let V := List.replicate nSlots sentinel
  if timeWord h m ≠ 0#11 then encodeWalk (timeWord h m) c.encTable.toList V 0 else V

/-- `seq <- Encode(hours, minutes)`, the refresh (spec/40_encoder.md rule R100). -/
def State.refresh (s : State) : State := s.storeSeq (encodeSlots s.cfg s.hours s.minutes)

/-! ## The fault, the handlers, power-on -/

/-- `raise f`: set the sticky field; the step has no other effect (spec/00_scope.md rule R9, spec/60_exceptions.md rule R201). -/
def State.raise (f : Fault) (s : State) : State := { s with fault := some f }

/-- While a fault is set every stimulus but `RESET` leaves the whole state unchanged (spec/60_exceptions.md rule R201). -/
def unlessFaulted (op : State → State) (s : State) : State :=
  match s.fault with
  | none => op s
  | some _ => s

/-- A sub-operation served where its stimulus selects it (spec/30_encoding.md rule R79) and no fault is set; elsewhere it does not run
and nothing changes. DESIGN CHOICE, log entry 5: no `step` reaches the other case; unsafe for a claim about `exec` alone there. -/
def whenSelected (selected : Bool) (op : State → State) (s : State) : State :=
  if selected then unlessFaulted op s else s

/-- `if mpc = SUSP then mpc <- GATE`, the suspend primitive returning (spec/43_power.md rule R163). -/
def State.wake (s : State) : State :=
  match s.mpc with
  | .susp => s.setMpc .gate
  | .gate => s
  | .walk _ => s

/-- Serving a handler. Entry "saves nothing and changes nothing" (spec/60_exceptions.md rule R205); the body runs as one action; the
return leaves `mpc` as it was, but for `SUSP`, from which `MAIN` resumes at `GATE` (R206). -/
def serveHandler (body : State → State) (s : State) : State :=
  unlessFaulted (fun t => (body t).wake) s

/-- Power-on, in any state (spec/70_reset_and_hazards.md rule R240): the only exit from a fault. The configuration and what the
environment has lined up are not the block's and stay; `port` takes `PORT_RESET`, "not a write of the trace". -/
def State.powerOn (s : State) : State :=
  { s with
    hours := 0
    minutes := 0
    seconds := 0
    deb := 0
    inact := 0
    seq := []
    mpc := .gate
    port := s.cfg.portReset
    fault := none
    trace := [] }

/-! ## Taking the next stimulus -/

/-- The word of the next stimulus: the first one lined up, or the environment's free choice (log entry 4). -/
def nextWord (s : State) : StimWord :=
  match s.stims with
  | w :: _ => w
  | [] => Config.envStimulus s.envDraws

/-- The state with that stimulus taken. -/
def takeWord (s : State) : State :=
  match s.stims with
  | _ :: rest => { s with stims := rest }
  | [] => { s with envDraws := s.envDraws + 1 }

/-- Line up one word to be served next, before whatever is already lined up. -/
def offerWord (w : StimWord) (s : State) : State := { s with stims := w :: s.stims }

end Sys2Proof.Machine
end

