-- ==== Sys2Proof/Machine/Power.lean ====
section
/-! DEFINITION. The power family (spec/43_power.md): `GATE`, `SLEEP_ENTRY`, `WAKEUP`. -/

namespace Sys2Proof.Machine

/-- Going to sleep, one atomic action (R162): `deb <- 10 ; port <- IDLE_PATTERN ; mpc <- SUSP`. The atomicity is the spec's decision
D10 (log entry 9). -/
def sleepNow (s : State) : State :=
  ((s.setDeb debThreshold).writePort s.cfg.idlePattern).setMpc .susp

/-- The power gate (R161): `inact >= 25` sleeps, else a pass begins at slot 0. -/
def gateStep (s : State) : State :=
  if sleepDue s.inact then sleepNow s else s.setMpc (.walk 0)

/-- `GATE` (R161), served at `mpc = GATE`. -/
def execGate (s : State) : Host.Outcome State Fault Refusal :=
  .next (whenSelected (s.mpc == .gate) gateStep s)

/-- `SLEEP_ENTRY` (R162), served at `mpc = GATE` with `inact >= 25`. -/
def execSleepEntry (s : State) : Host.Outcome State Fault Refusal :=
  .next (whenSelected (s.mpc == .gate && sleepDue s.inact) sleepNow s)

/-- `WAKEUP` (R163): it writes `mpc` only, and only at `SUSP`. -/
def execWakeup (s : State) : Host.Outcome State Fault Refusal :=
  .next (unlessFaulted State.wake s)

end Sys2Proof.Machine
end

