-- ==== Sys2Proof/Machine/Display.lean ====
section
/-! DEFINITION. The display driver loop (spec/44_display_loop.md): `STEP`, `WALK`, `PASS_END`, `WALK_OVERRUN`. -/

namespace Sys2Proof.Machine

/-- Emit slot `i` (R181): `port <- seq[i] ; mpc <- WALK(i + 1)`. Used at `i <= 10` only, where `i + 1` is a position. -/
def emitSlot (i : Fin 12) (s : State) : State :=
  (s.writePort (readSlot s.seq i.val)).setMpc (.walk (i + 1))

/-- The sentinel has been read (R182): `deb <- deb +_W 1 ; mpc <- GATE`; `port` is not written. -/
def endPass (s : State) : State :=
  (s.setDeb (incW s.cfg.wDeb s.deb)).setMpc .gate

/-- `STEP` at `WALK(i)` (R180): a slot of the buffer is emitted or ends the pass; `WALK(11)` is outside it and faults (R183). -/
def walkStep (i : Fin 12) (s : State) : State :=
  if i.val < nSlots then
    if readSlot s.seq i.val ≠ sentinel then emitSlot i s else endPass s
  else s.raise .walkOverrun

/-- One unit of progress of `MAIN`, by `mpc` (R180). At `SUSP` the step is not enabled and a model that serves it changes nothing
(spec/43_power.md rule R164). -/
def mainStep (s : State) : State :=
  match s.mpc with
  | .gate => gateStep s
  | .walk i => walkStep i s
  | .susp => s

/-- `STEP` (R180). -/
def execStep (s : State) : Host.Outcome State Fault Refusal :=
  .next (unlessFaulted mainStep s)

/-- `WALK` (R181), served at `mpc = WALK(i)`, `i <= 10`, `seq[i] != 0x00`. -/
def execWalk (s : State) : Host.Outcome State Fault Refusal :=
  match s.mpc with
  | .walk i => .next (whenSelected (decide (i.val < nSlots) && readSlot s.seq i.val != sentinel) (emitSlot i) s)
  | .gate => .next s
  | .susp => .next s

/-- `PASS_END` (R182), served at `mpc = WALK(i)`, `i <= 10`, `seq[i] = 0x00`. -/
def execPassEnd (s : State) : Host.Outcome State Fault Refusal :=
  match s.mpc with
  | .walk i => .next (whenSelected (decide (i.val < nSlots) && readSlot s.seq i.val == sentinel) endPass s)
  | .gate => .next s
  | .susp => .next s

/-- `WALK_OVERRUN` (R183), served at `mpc = WALK(11)`: `fault <- WALK_OVERRUN`, nothing else. -/
def execWalkOverrun (s : State) : Host.Outcome State Fault Refusal :=
  .next (whenSelected (s.mpc == .walk 11) (State.raise .walkOverrun) s)

end Sys2Proof.Machine
end

