-- ==== Sys2Proof/Machine/Encoder.lean ====
section
/-! DEFINITION. The encoder's row of the opcode table (spec/40_encoder.md). -/

namespace Sys2Proof.Machine

/-- `ENCODE` (R100). The function writes no state by itself; "its callers do `seq <- Encode(hours, minutes)`", and that refresh is
what the row's operation does where it runs (spec/10_state.md rule R20: `seq` is written by "ENCODE (through TICK, ADJ_H, ADJ_M)").
DEDUCED, log entry 7; safe. -/
def execEncode (s : State) : Host.Outcome State Fault Refusal :=
  .next (unlessFaulted State.refresh s)

end Sys2Proof.Machine
end

