-- ==== Sys2Proof/Machine/Clock.lean ====
section
/-! DEFINITION. The clock family (spec/41_clock.md): `TICK`, `ADJ_H`, `ADJ_M`. -/

namespace Sys2Proof.Machine

/-! ## TICK (R120) -/

/-- The two unconditional increments of `TICK`: `seconds` and `inact` (R120, R126). -/
def tickCount (s : State) : State :=
  { s with seconds := incW s.cfg.wSec s.seconds, inact := incW s.cfg.wInact s.inact }

/-- First check: `seconds` has reached 60. The encoder runs here, on `hours` as it is and `minutes` as just incremented (R122). -/
def rollSeconds (s : State) : State :=
  if roll s.cfg.rollCmp s.seconds secMod then ({ s with seconds := 0 }).incMinutes.refresh else s

/-- Second check, always evaluated: `minutes` has reached 60. -/
def rollMinutes (s : State) : State :=
  if roll s.cfg.rollCmp s.minutes minMod then ({ s with minutes := 0 }).incHours else s

/-- Third check, always evaluated: `hours` has reached 24. -/
def rollHours (s : State) : State :=
  if roll s.cfg.rollCmp s.hours hourMod then { s with hours := 0 } else s

/-- The body of the tick handler: the increments and the three checks, in this order (R120, R125). -/
def tickBody (s : State) : State := rollHours (rollMinutes (rollSeconds (tickCount s)))

/-- `TICK`, the real-time tick handler (R120). -/
def execTick (s : State) : Host.Outcome State Fault Refusal :=
  .next (serveHandler tickBody s)

/-! ## ADJ_H, ADJ_M (R123, R124) -/

/-- `hours <- hours +_W 1 ; seq <- Encode(hours, minutes)` (R123). -/
def adjustHours (s : State) : State := s.incHours.refresh

/-- `minutes <- minutes +_W 1 ; seq <- Encode(hours, minutes)`, with no carry (R124). -/
def adjustMinutes (s : State) : State := s.incMinutes.refresh

/-- `ADJ_H` (R123). -/
def execAdjH (s : State) : Host.Outcome State Fault Refusal :=
  .next (unlessFaulted adjustHours s)

/-- `ADJ_M` (R124). -/
def execAdjM (s : State) : Host.Outcome State Fault Refusal :=
  .next (unlessFaulted adjustMinutes s)

end Sys2Proof.Machine
end

