-- ==== Sys2Proof/Machine/Input.lean ====
section
/-! DEFINITION. The input and debounce family (spec/42_input_debounce.md): `EDGE`, `CHK_H`, `CHK_M`, `CHK_W`. -/

namespace Sys2Proof.Machine

/-- The hours-adjust check (R141). It does not write `inact` (R146). -/
def checkHours (ph : Level) (s : State) : State :=
  if accepts ph s.deb then (adjustHours s).setDeb 0 else s

/-- The minutes-adjust check (R142). It does not write `inact` (R146). -/
def checkMinutes (pm : Level) (s : State) : State :=
  if accepts pm s.deb then (adjustMinutes s).setDeb 0 else s

/-- The wake check (R143): "no clock mutation". -/
def checkWake (pw : Level) (s : State) : State :=
  if accepts pw s.deb then (s.setInact 0).setDeb 0 else s

/-- `EDGE_EVAL = SEQ` (R144): `CHK_H ; CHK_M ; CHK_W`, each reading `deb` as the one before left it. -/
def checksSeq (ph pm pw : Level) (s : State) : State :=
  checkWake pw (checkMinutes pm (checkHours ph s))

/-- `EDGE_EVAL = PAR` (R145): every line is judged on the value `deb` had when the `EDGE` began; one encode, on the new values. -/
def checksPar (ph pm pw : Level) (s : State) : State :=
  let aH := accepts ph s.deb
  let aM := accepts pm s.deb
  let aW := accepts pw s.deb
  let s := if aH then s.incHours else s
  let s := if aM then s.incMinutes else s
  let s := if aH || aM then s.refresh else s
  let s := if aW then s.setInact 0 else s
  if aH || aM || aW then s.setDeb 0 else s

/-- The three checks, composed as `EDGE_EVAL` says. -/
def edgeBody (ph pm pw : Level) (s : State) : State :=
  match s.cfg.edgeEval with
  | .seq => checksSeq ph pm pw s
  | .par => checksPar ph pm pw s

/-- `EDGE(ph, pm, pw)`, the pin-change handler (R140). -/
def execEdge (ph pm pw : Level) (s : State) : Host.Outcome State Fault Refusal :=
  .next (serveHandler (edgeBody ph pm pw) s)

/-- `CHK_H` (R141). -/
def execChkH (ph : Level) (s : State) : Host.Outcome State Fault Refusal :=
  .next (unlessFaulted (checkHours ph) s)

/-- `CHK_M` (R142). -/
def execChkM (pm : Level) (s : State) : Host.Outcome State Fault Refusal :=
  .next (unlessFaulted (checkMinutes pm) s)

/-- `CHK_W` (R143). -/
def execChkW (pw : Level) (s : State) : Host.Outcome State Fault Refusal :=
  .next (unlessFaulted (checkWake pw) s)

end Sys2Proof.Machine
end

