-- ==== Sys2Proof/Machine/Reset.lean ====
section
/-! DEFINITION. Power-on (spec/70_reset_and_hazards.md). -/

namespace Sys2Proof.Machine

/-- `RESET` (R240): served in any state, faulted or not, suspended or not. -/
def execReset (s : State) : Host.Outcome State Fault Refusal :=
  .next s.powerOn

end Sys2Proof.Machine
end

