-- ==== Sys2Proof/Machine/Dispatch.lean ====
section
/-! DEFINITION. One arm per operation of spec/opcode_table.json, in the table's order. -/

namespace Sys2Proof.Machine

def exec (i : Instr) (s : State) : Host.Outcome State Fault Refusal :=
  match i with
  | .step => Sys2Proof.Machine.execStep s
  | .tick => Sys2Proof.Machine.execTick s
  | .edge ph pm pw => Sys2Proof.Machine.execEdge ph pm pw s
  | .reset => Sys2Proof.Machine.execReset s
  | .encode => Sys2Proof.Machine.execEncode s
  | .adjH => Sys2Proof.Machine.execAdjH s
  | .adjM => Sys2Proof.Machine.execAdjM s
  | .chkH ph => Sys2Proof.Machine.execChkH ph s
  | .chkM pm => Sys2Proof.Machine.execChkM pm s
  | .chkW pw => Sys2Proof.Machine.execChkW pw s
  | .gate => Sys2Proof.Machine.execGate s
  | .sleepEntry => Sys2Proof.Machine.execSleepEntry s
  | .wakeup => Sys2Proof.Machine.execWakeup s
  | .walk => Sys2Proof.Machine.execWalk s
  | .passEnd => Sys2Proof.Machine.execPassEnd s
  | .walkOverrun => Sys2Proof.Machine.execWalkOverrun s

end Sys2Proof.Machine
end

