-- ==== Sys2Proof/Machine/Step.lean ====
section
/-! DEFINITION. One step: the next stimulus is taken, decoded and served (spec/00_scope.md rule R10). -/

namespace Sys2Proof.Machine

/-- Serve the next stimulus. An ill-formed configuration is refused (spec/00_scope.md rule R7). -/
def step (s : State) : Host.Outcome State Fault Refusal :=
  if s.cfg.widthsOk then exec (decodeWord (nextWord s)) (takeWord s) else .refused .illFormedConfig

/-- `s` with one more stimulus lined up, to be served next: the low five bits of `w`. The block runs no program; this stands for the
environment issuing the stimulus (log entry 4). -/
def State.withFetchWord (s : State) (_nbits w : Nat) : State := offerWord (BitVec.ofNat 5 w) s

end Sys2Proof.Machine
end

