-- ==== Sys2Proof/Safety.lean ====
section
/-! DEFINITION. The terms claims use: what the environment observes, the phase, the launch premises, the sequence a table and a time
word ask for, and the invariants. -/

namespace Sys2Proof.Machine

/-! ## Observation and phase -/

/-- `suspend`: 1 exactly while `mpc = SUSP` (spec/10_state.md rule R36). -/
def suspendSignal (s : State) : Bool := s.mpc == .susp

/-- `port_wr`: pulses once per write of `port` (R36); seen between the state before and after a stimulus. -/
def portWrSignal (before after : State) : Bool := decide (before.trace.length < after.trace.length)

/-- The power phase: SLEEPING exactly when `mpc = SUSP` (spec/10_state.md rule R28). -/
def phase (s : State) : Phase :=
  match s.mpc with
  | .susp => .sleeping
  | .gate => .active
  | .walk _ => .active

/-- What the environment can observe (spec/00_scope.md rule R13): the write trace, the held value of `port`, suspension. -/
def observe (s : State) : List Byte × Byte × Bool := (s.trace, s.port, suspendSignal s)

/-- `n` stimuli served one after another (spec/20_memory.md rule R60: one total order). -/
def runSteps : Nat → State → Host.Outcome State Fault Refusal
  | 0, s => .next s
  | n + 1, s =>
    match step s with
    | .next t => runSteps n t
    | .fault r => .fault r
    | .refused r => .refused r

/-! ## Good states and launch premises -/

/-- A good state of a run: "A faulted state is never a good final state" (spec/60_exceptions.md rule R201). -/
abbrev Good (s : State) : Prop := s.fault = none

/-- The reset state of spec/10_state.md rule R35 for some `PORT_RESET`: every field of the block at its reset value, `port` any. -/
def AtReset (s : State) : Prop :=
  s.hours = 0 ∧ s.minutes = 0 ∧ s.seconds = 0 ∧ s.deb = 0 ∧ s.inact = 0 ∧ s.seq = [] ∧ s.mpc = .gate ∧ s.fault = none ∧ s.trace = []

/-- `seq = Encode(h, m)` for some `h`, `m` (spec/10_state.md rules R26, R38). -/
def SeqEncoded (s : State) : Prop := ∃ h m : Nat, s.seq = cellsFrom 0 (encodeSlots s.cfg h m)

/-! ## What the encoder is to produce -/

/-- The patterns of the table entries whose selector bit is set in the time word, in table order (spec/40_encoder.md rule R102). -/
def matchedPatterns (c : Config) (tw : TimeWord) : List Byte :=
  (c.encTable.toList.filter fun e => selects e.sel tw).map Entry.pat

/-- "`n` non-zero patterns, then `11-n` zeros" (spec/10_state.md rule R26, spec/30_encoding.md rule R73). -/
def Packed (m : Memory) (n : Nat) : Prop :=
  (∀ i, i < n → readSlot m i ≠ sentinel) ∧ ∀ i, n ≤ i → readSlot m i = sentinel

/-! ## Invariants -/

/-- Each counter is a number of its width (spec/00_scope.md rule R8). -/
structure CountersFit (s : State) : Prop where
  hours : s.hours < 2 ^ s.cfg.wHours
  minutes : s.minutes < 2 ^ s.cfg.wMin
  seconds : s.seconds < 2 ^ s.cfg.wSec
  deb : s.deb < 2 ^ s.cfg.wDeb
  inact : s.inact < 2 ^ s.cfg.wInact

/-- The last write of the trace is what the latch holds (spec/20_memory.md rule R54: the sink "holds it until the next write"). -/
def PortHoldsTrace (s : State) : Prop := ∀ v, s.trace.getLast? = some v → s.port = v

/-- The invariant every step keeps: counters within their widths, `SEQ` in canonical form and the image of some `Encode(h, m)`, the
latch holding the last write. -/
structure StateInv (s : State) : Prop where
  fit : CountersFit s
  seqWf : s.seq.wf
  encoded : SeqEncoded s
  latch : PortHoldsTrace s

/-- The invariant under which no walk overruns (spec/44_display_loop.md rule R183): the table's position 0 is inert, `seq` is the image
of some `Encode(h, m)`, the walk is inside the buffer and no fault is set. -/
structure NoOverrun (s : State) : Prop where
  inert : TablePos0Inert s.cfg
  encoded : SeqEncoded s
  inside : s.mpc ≠ .walk 11
  good : Good s

end Sys2Proof.Machine
end

