-- ==== Sys2Proof/Certificates/Slice0/Obligations.lean ====
section
/-! DEFINITION. The statements for the provers: what the numbered rules of spec/ say the operations and the machine do. Where a
statement gives the whole next state as an update of the old one, every field it does not name is unchanged, the space `SEQ` slot by
slot among them. Statements on a rule that the spec marks as its own decision or derivation have basis derived in OBLIGATIONS.json. -/

open Sys2Proof Sys2Proof.Machine

/-! ## Stimulus words -/

/-- Words of rule R77's table decode to the stimuli they stand for; ignored bits are ignored (R78). The encoding is the spec's own
device (decision D3). -/
def Obligations.StimulusWordsDecodeAsTheTableSays : Prop :=
  decodeWord 0x07#5 = .step ∧ decodeWord 0x00#5 = .step ∧ decodeWord 0x0F#5 = .tick ∧
  decodeWord 0x10#5 = .edge .low .low .low ∧ decodeWord 0x16#5 = .edge .low .high .high ∧
  decodeWord 0x15#5 = .edge .high .low .high ∧ decodeWord 0x13#5 = .edge .high .high .low ∧
  decodeWord 0x17#5 = .edge .high .high .high ∧ decodeWord 0x1F#5 = .reset ∧ decodeWord 0x18#5 = .reset

/-- A script of well-formed stimuli, written as bytes, decodes back to itself: no operand bit is dropped (R76, R77). -/
def Obligations.ScriptsOfStimuliDecodeBack : Prop :=
  ∀ is : List Instr, (∀ i ∈ is, i.wf = true) →
    ∃ bs, encodeScript is = some bs ∧ bs.length = is.length ∧ decodeScript bs = .ok is

/-- Every word decodes to a stimulus whose word is the canonical spelling of it (R76, R78). -/
def Obligations.EveryWordIsAStimulus : Prop :=
  ∀ w : StimWord, (decodeWord w).wf = true ∧ encode (decodeWord w) = some (canonicalWord w)

/-- A byte with a bit above bit 4 holds no stimulus word and is refused by name: the model's choice, log entry 6. -/
def Obligations.BytesAboveFiveBitsAreRefused : Prop :=
  ∀ (b : Byte) (rest : List Byte), 32 ≤ b.toNat → decode (b :: rest) = .error (.notFiveBits b)

/-! ## The step -/

/-- A step serves the decoded stimulus that the environment has lined up first, and takes it off the list (R10; the list is the
model's, log entry 4). -/
def Obligations.StepServesTheStimulusLinedUp : Prop :=
  ∀ (s : State) (w : StimWord) (rest : List StimWord) (i : Instr), s.cfg.widthsOk = true → s.stims = w :: rest →
    decodeWord w = i → step s = exec i { s with stims := rest }

/-- With nothing lined up, a step serves the environment's free choice, whatever it is (R11; log entry 4). -/
def Obligations.StepServesTheEnvironmentsFreeChoice : Prop :=
  ∀ s : State, s.cfg.widthsOk = true → s.stims = [] →
    step s = exec (decodeWord (Config.envStimulus s.envDraws)) { s with envDraws := s.envDraws + 1 }

/-- A configuration with a width below its bound is refused (R7). -/
def Obligations.NarrowWidthsAreRefused : Prop :=
  ∀ s : State, (s.cfg.wHours < 5 ∨ s.cfg.wMin < 6 ∨ s.cfg.wSec < 6 ∨ s.cfg.wDeb < 4 ∨ s.cfg.wInact < 5) →
    step s = .refused .illFormedConfig

/-- Every operation answers a next state in every state, and so does every step of a configuration whose widths hold: nothing traps
(R200). -/
def Obligations.EveryOperationAndStepCompletes : Prop :=
  (∀ (i : Instr) (s : State), ∃ t, exec i s = .next t) ∧
  ∀ s : State, 5 ≤ s.cfg.wHours → 6 ≤ s.cfg.wMin → 6 ≤ s.cfg.wSec → 4 ≤ s.cfg.wDeb → 5 ≤ s.cfg.wInact → ∃ t, step s = .next t

/-- No operation and no step writes the configuration (R12, R31: the table is "never mutated at runtime"); no operation touches what
the environment has lined up. -/
def Obligations.ConfigurationIsNeverWritten : Prop :=
  (∀ (i : Instr) (s t : State), exec i s = .next t → t.cfg = s.cfg ∧ t.stims = s.stims ∧ t.envDraws = s.envDraws) ∧
  ∀ s t : State, step s = .next t → t.cfg = s.cfg

/-! ## The encoder -/

/-- `ENCODE` writes the 11 slots of `Encode(hours, minutes)` and nothing else (R100; that the row's operation is the refresh its
callers do is DEDUCED, log entry 7). -/
def Obligations.EncodeRefreshesTheWholeBuffer : Prop :=
  ∀ s : State, s.fault = none →
    ∃ m : Memory, exec .encode s = .next { s with seq := m } ∧
      (∀ i, i < 11 → readSlot m i = (encodeSlots s.cfg s.hours s.minutes).getD i 0#8) ∧
      ∀ i, 11 ≤ i → readSlot m i = 0#8

/-- `Encode` is the patterns of the matching table entries, in table order, packed to the front and filled with zeros (R100, R102,
R103). -/
def Obligations.EncodePacksTheMatchesInTableOrder : Prop :=
  ∀ (c : Config) (h m : Nat), (matchedPatterns c (timeWord h m)).length ≤ 11 ∧
    encodeSlots c h m =
      matchedPatterns c (timeWord h m) ++ List.replicate (11 - (matchedPatterns c (timeWord h m)).length) 0#8

/-- The zero time word gives the empty sequence; it arises at (0, 0) and where shifted hours and minutes cancel or fall outside 11
bits (R101). -/
def Obligations.ZeroTimeWordGivesTheEmptySequence : Prop :=
  (∀ (c : Config) (h m : Nat), timeWord h m = 0#11 → encodeSlots c h m = List.replicate 11 0#8) ∧
  timeWord 0 0 = 0#11 ∧ timeWord 1 64 = 0#11 ∧ timeWord 3 192 = 0#11 ∧ timeWord 32 0 = 0#11

/-- For in-range inputs the time word is the five hour bits above the six minute bits, and XOR equals OR (R71). -/
def Obligations.TimeWordLayoutInRange : Prop :=
  ∀ h m : Nat, h < 32 → m < 64 →
    timeWord h m = BitVec.ofNat 5 h ++ BitVec.ofNat 6 m ∧ timeWord h m = BitVec.ofNat 11 ((h <<< 6) ||| m)

/-- With non-zero patterns (premise `TableNonzero`) the sequence is "`n` non-zero patterns, then `11-n` zeros" (R26, R73). -/
def Obligations.SequenceIsPackedUnderNonzeroPatterns : Prop :=
  ∀ (c : Config) (h m : Nat), TableNonzero c →
    Packed (cellsFrom 0 (encodeSlots c h m)) (matchedPatterns c (timeWord h m)).length

/-- With position 0 inert (premise `TablePos0Inert`) at most 10 patterns are produced and slot 10 is the sentinel (R104). -/
def Obligations.InertPositionZeroKeepsTheSentinel : Prop :=
  ∀ (c : Config) (h m : Nat), TablePos0Inert c →
    (matchedPatterns c (timeWord h m)).length ≤ 10 ∧ readSlot (cellsFrom 0 (encodeSlots c h m)) 10 = 0#8

/-- One bit of the time is not displayed by any well-formed table: two different times of day have the same sequence (R106, R247). -/
def Obligations.DisplayDoesNotDetermineTheTime : Prop :=
  ∀ c : Config, TablePos0Inert c →
    ∃ h m h' m' : Nat, h < 24 ∧ m < 60 ∧ h' < 24 ∧ m' < 60 ∧ (h, m) ≠ (h', m') ∧ encodeSlots c h m = encodeSlots c h' m'

/-! ## The clock -/

/-- `TICK`: both increments, the three checks in order, the encoder inside the first, the wake-up; with a fault set, nothing
(R120). -/
def Obligations.TickAdvancesTheTimeOfDay : Prop :=
  ∀ s : State,
    (s.fault = none →
      let sec := (s.seconds + 1) % 2 ^ s.cfg.wSec
      let r1 := roll s.cfg.rollCmp sec 60
      let min := if r1 then (s.minutes + 1) % 2 ^ s.cfg.wMin else s.minutes
      let r2 := roll s.cfg.rollCmp min 60
      let hr := if r2 then (s.hours + 1) % 2 ^ s.cfg.wHours else s.hours
      let r3 := roll s.cfg.rollCmp hr 24
      exec .tick s = .next
        { s with
          seconds := if r1 then 0 else sec
          inact := (s.inact + 1) % 2 ^ s.cfg.wInact
          minutes := if r2 then 0 else min
          hours := if r3 then 0 else hr
          seq := if r1 then cellsFrom 0 (encodeSlots s.cfg s.hours min) else s.seq
          mpc := if s.mpc = .susp then .gate else s.mpc }) ∧
    (s.fault ≠ none → exec .tick s = .next s)

/-- From 23:59:59 one `TICK` gives 0:00:00 and the display of (23, 60), whatever `ROLL_CMP` is (R122, R125). -/
def Obligations.FullRolloverKeepsTheStaleDisplay : Prop :=
  ∀ s : State, s.cfg.widthsOk = true → s.fault = none → s.hours = 23 → s.minutes = 59 → s.seconds = 59 →
    exec .tick s = .next
      { s with
        hours := 0
        minutes := 0
        seconds := 0
        inact := (s.inact + 1) % 2 ^ s.cfg.wInact
        seq := cellsFrom 0 (encodeSlots s.cfg 23 60)
        mpc := if s.mpc = .susp then .gate else s.mpc }

/-- The two meanings of "reaches" agree on every `TICK` from an in-range time (R121). -/
def Obligations.RolloverComparisonsAgreeInRange : Prop :=
  ∀ (s : State) (cmp : RollCmp), s.seconds ≤ 59 → s.minutes ≤ 59 → s.hours ≤ 23 →
    ∃ t, exec .tick s = .next t ∧
      exec .tick { s with cfg := { s.cfg with rollCmp := cmp } } = .next { t with cfg := { t.cfg with rollCmp := cmp } }

/-- Fewer ticks than the rest of the minute count `seconds` and `inact` up and refresh nothing (R120, R122; served as steps of the
machine, the words lined up, log entry 4). -/
def Obligations.TicksInsideAMinuteOnlyCount : Prop :=
  ∀ (n : Nat) (s : State) (rest : List StimWord), s.cfg.widthsOk = true → s.fault = none → s.seconds + n < 60 →
    s.minutes < 60 → s.hours < 24 → s.inact < 2 ^ s.cfg.wInact → s.stims = secondsWords n ++ rest →
    runSteps n s = .next
      { s with
        seconds := s.seconds + n
        inact := (s.inact + n) % 2 ^ s.cfg.wInact
        mpc := if n ≠ 0 ∧ s.mpc = .susp then .gate else s.mpc
        stims := rest }

/-- Sixty ticks from second 0 turn one minute, and the refresh falls on the sixtieth alone: `seq` still stands after fifty-nine
(R120, R122). -/
def Obligations.SixtyTicksTurnOneMinute : Prop :=
  ∀ (s : State) (rest : List StimWord), s.cfg.widthsOk = true → s.fault = none → s.seconds = 0 →
    s.minutes < 59 → s.hours < 24 → s.inact < 2 ^ s.cfg.wInact → s.stims = secondsWords 60 ++ rest →
    (∃ u, runSteps 59 s = .next u ∧ u.seq = s.seq ∧ u.seconds = 59) ∧
    runSteps 60 s = .next
      { s with
        minutes := s.minutes + 1
        inact := (s.inact + 60) % 2 ^ s.cfg.wInact
        seq := cellsFrom 0 (encodeSlots s.cfg s.hours (s.minutes + 1))
        mpc := if s.mpc = .susp then .gate else s.mpc
        stims := rest }

/-- `seconds` stays below 60 under every operation and either `ROLL_CMP` (R23). -/
def Obligations.SecondsStayBelowSixty : Prop :=
  ∀ (i : Instr) (s t : State), s.cfg.widthsOk = true → s.seconds < 60 → exec i s = .next t → t.seconds < 60

/-- `ADJ_H`: `hours` up by one at its width, with no test against 24, and a refresh on the new hours; nothing else (R123). -/
def Obligations.AdjustHoursNeverWrapsAtTwentyFour : Prop :=
  ∀ s : State, s.fault = none →
    exec .adjH s = .next
      { s with
        hours := (s.hours + 1) % 2 ^ s.cfg.wHours
        seq := cellsFrom 0 (encodeSlots s.cfg ((s.hours + 1) % 2 ^ s.cfg.wHours) s.minutes) }

/-- `ADJ_M`: `minutes` up by one at its width, with no test against 60 and no carry, and a refresh on the new minutes; nothing else
(R124). -/
def Obligations.AdjustMinutesNeverCarries : Prop :=
  ∀ s : State, s.fault = none →
    exec .adjM s = .next
      { s with
        minutes := (s.minutes + 1) % 2 ^ s.cfg.wMin
        seq := cellsFrom 0 (encodeSlots s.cfg s.hours ((s.minutes + 1) % 2 ^ s.cfg.wMin)) }

/-- From hour 23 an `ADJ_H` shows 24; the next `TICK` inside the minute takes `hours` to 0 and leaves the display at 24 (R123, R245). -/
def Obligations.HourTwentyFourIsRepairedByTheNextTick : Prop :=
  ∀ s : State, s.cfg.widthsOk = true → s.fault = none → s.hours = 23 → s.minutes < 60 → s.seconds < 59 →
    ∃ t u, exec .adjH s = .next t ∧ exec .tick t = .next u ∧ t.hours = 24 ∧
      t.seq = cellsFrom 0 (encodeSlots s.cfg 24 s.minutes) ∧
      u.hours = 0 ∧ u.minutes = s.minutes ∧ u.seconds = s.seconds + 1 ∧ u.seq = t.seq

/-- From minute 59 an `ADJ_M` shows 60 without a carry; the next `TICK` inside the minute takes `minutes` to 0, carries into `hours`
and leaves the display at 60 (R124, R125). -/
def Obligations.MinuteSixtyCarriesAtTheNextTick : Prop :=
  ∀ s : State, s.cfg.widthsOk = true → s.fault = none → s.minutes = 59 → s.hours < 23 → s.seconds < 59 →
    ∃ t u, exec .adjM s = .next t ∧ exec .tick t = .next u ∧ t.minutes = 60 ∧ t.hours = s.hours ∧
      t.seq = cellsFrom 0 (encodeSlots s.cfg s.hours 60) ∧
      u.minutes = 0 ∧ u.hours = s.hours + 1 ∧ u.seconds = s.seconds + 1 ∧ u.seq = t.seq

/-! ## The input checks -/

/-- `CHK_H` accepts a low line at `deb >= 10`: `ADJ_H` and `deb <- 0`, `inact` untouched; otherwise nothing changes (R141). -/
def Obligations.HoursCheckAcceptsAPressedLine : Prop :=
  ∀ (s : State) (ph : Level), s.fault = none →
    exec (.chkH ph) s = .next
      (if ph = .low ∧ 10 ≤ s.deb then
        { s with
          hours := (s.hours + 1) % 2 ^ s.cfg.wHours
          seq := cellsFrom 0 (encodeSlots s.cfg ((s.hours + 1) % 2 ^ s.cfg.wHours) s.minutes)
          deb := 0 }
      else s)

/-- `CHK_M` accepts a low line at `deb >= 10`: `ADJ_M` and `deb <- 0`, `inact` untouched; otherwise nothing changes (R142). -/
def Obligations.MinutesCheckAcceptsAPressedLine : Prop :=
  ∀ (s : State) (pm : Level), s.fault = none →
    exec (.chkM pm) s = .next
      (if pm = .low ∧ 10 ≤ s.deb then
        { s with
          minutes := (s.minutes + 1) % 2 ^ s.cfg.wMin
          seq := cellsFrom 0 (encodeSlots s.cfg s.hours ((s.minutes + 1) % 2 ^ s.cfg.wMin))
          deb := 0 }
      else s)

/-- `CHK_W` accepts a low line at `deb >= 10`: `inact <- 0` and `deb <- 0`, no clock mutation, in both phases; otherwise nothing
changes (R143). And an accepted `EDGE 1 1 0` served at `SUSP` leads to a state in which a `STEP` served at once opens the gate (R163,
R161; the spec's decisions D11 and D6, log entry 10). -/
def Obligations.WakeCheckResetsInactivity : Prop :=
  ∀ (s : State) (pw : Level), s.fault = none →
    exec (.chkW pw) s = .next (if pw = .low ∧ 10 ≤ s.deb then { s with inact := 0, deb := 0 } else s) ∧
    (pw = .low → 10 ≤ s.deb → s.mpc = .susp →
      ∃ t, exec (.edge .high .high .low) s = .next t ∧ exec .step t = .next { t with mpc := .walk 0 })

/-- Under `EDGE_EVAL = SEQ` an `EDGE` accepts the first pressed line in the order hours, minutes, wake, and no other (R144). -/
def Obligations.SequentialChecksAcceptTheFirstPressedLine : Prop :=
  ∀ (s : State) (ph pm pw : Level), s.fault = none → s.cfg.edgeEval = .seq →
    let woken : Mpc := if s.mpc = .susp then .gate else s.mpc
    exec (.edge ph pm pw) s = .next
      (if s.deb < 10 then { s with mpc := woken }
      else if ph = .low then
        { s with
          hours := (s.hours + 1) % 2 ^ s.cfg.wHours
          seq := cellsFrom 0 (encodeSlots s.cfg ((s.hours + 1) % 2 ^ s.cfg.wHours) s.minutes)
          deb := 0
          mpc := woken }
      else if pm = .low then
        { s with
          minutes := (s.minutes + 1) % 2 ^ s.cfg.wMin
          seq := cellsFrom 0 (encodeSlots s.cfg s.hours ((s.minutes + 1) % 2 ^ s.cfg.wMin))
          deb := 0
          mpc := woken }
      else if pw = .low then { s with inact := 0, deb := 0, mpc := woken }
      else { s with mpc := woken })

/-- Under `EDGE_EVAL = PAR` an `EDGE` accepts every pressed line when `deb >= 10` held at its start, with one encode on the new values
(R145). -/
def Obligations.ParallelChecksAcceptEveryPressedLine : Prop :=
  ∀ (s : State) (ph pm pw : Level), s.fault = none → s.cfg.edgeEval = .par →
    let woken : Mpc := if s.mpc = .susp then .gate else s.mpc
    let h := if ph = .low then (s.hours + 1) % 2 ^ s.cfg.wHours else s.hours
    let m := if pm = .low then (s.minutes + 1) % 2 ^ s.cfg.wMin else s.minutes
    exec (.edge ph pm pw) s = .next
      (if s.deb < 10 then { s with mpc := woken }
      else
        { s with
          hours := h
          minutes := m
          seq := if ph = .low ∨ pm = .low then cellsFrom 0 (encodeSlots s.cfg h m) else s.seq
          inact := if pw = .low then 0 else s.inact
          deb := if ph = .low ∨ pm = .low ∨ pw = .low then 0 else s.deb
          mpc := woken })

/-- The two compositions give the same result whenever at most one line is low, or `deb < 10` (R145). -/
def Obligations.CompositionsAgreeOnOneLine : Prop :=
  ∀ (s : State) (ph pm pw : Level) (ev : EdgeEval),
    (s.deb < 10 ∨ (ph = .high ∧ pm = .high) ∨ (ph = .high ∧ pw = .high) ∨ (pm = .high ∧ pw = .high)) →
    ∃ t, exec (.edge ph pm pw) s = .next t ∧
      exec (.edge ph pm pw) { s with cfg := { s.cfg with edgeEval := ev } } = .next { t with cfg := { t.cfg with edgeEval := ev } }

/-- After an accepted `EDGE` the debounce counter is 0, and the very next `EDGE`, with nothing served between, changes nothing at all
(R147; vector G12). Of an `EDGE` after a `STEP` nothing is said: going to sleep re-arms the counter (R250). -/
def Obligations.SecondEdgeBeforeAnyPassIsIgnored : Prop :=
  ∀ (s : State) (ph pm pw : Level), s.fault = none → 10 ≤ s.deb → (ph = .low ∨ pm = .low ∨ pw = .low) →
    ∃ t, exec (.edge ph pm pw) s = .next t ∧ t.deb = 0 ∧
      ∀ ph' pm' pw' : Level, exec (.edge ph' pm' pw') t = .next t

/-- Adjust presses do not reset the inactivity counter, in either composition and either phase (R146; decision D24). -/
def Obligations.AdjustPressesDoNotKeepAwake : Prop :=
  ∀ (s t : State) (ph pm : Level), exec (.edge ph pm .high) s = .next t → t.inact = s.inact

/-- The frame of `EDGE`: it never writes `seconds`, `port`, the trace, the fault or the model's own fields; without an accepted adjust
every slot of `SEQ` and the time of day stand, and each adjusted counter needs its own line low (R140). -/
def Obligations.EdgeFrame : Prop :=
  ∀ (s t : State) (ph pm pw : Level), exec (.edge ph pm pw) s = .next t →
    t.seconds = s.seconds ∧ t.port = s.port ∧ t.trace = s.trace ∧ t.fault = s.fault ∧ t.cfg = s.cfg ∧
    t.stims = s.stims ∧ t.envDraws = s.envDraws ∧
    (s.deb < 10 ∨ ph = .high → t.hours = s.hours) ∧ (s.deb < 10 ∨ pm = .high → t.minutes = s.minutes) ∧
    (s.deb < 10 ∨ pw = .high → t.inact = s.inact) ∧
    (s.deb < 10 ∨ (ph = .high ∧ pm = .high ∧ pw = .high) → t.deb = s.deb) ∧
    (s.deb < 10 ∨ (ph = .high ∧ pm = .high) → ∀ a, readSlot t.seq a = readSlot s.seq a) ∧
    (s.mpc ≠ .susp → t.mpc = s.mpc)

/-! ## Power -/

/-- Below the threshold the gate opens: a pass begins at slot 0 and nothing but `mpc` is written (R161). -/
def Obligations.GateOpensBelowTheThreshold : Prop :=
  ∀ s : State, s.fault = none → s.mpc = .gate → s.inact < 25 →
    exec .gate s = .next { s with mpc := .walk 0 } ∧ exec .step s = .next { s with mpc := .walk 0 }

/-- At or above the threshold the block goes to sleep: `deb` forced to 10, one write of the idle pattern, `mpc = SUSP`; `inact`, the
time of day and `seq` stand (R161, R162). -/
def Obligations.GateSleepsAtTheThreshold : Prop :=
  ∀ s : State, s.fault = none → s.mpc = .gate → 25 ≤ s.inact →
    let asleep : State :=
      { s with deb := 10, port := s.cfg.idlePattern, trace := s.trace ++ [s.cfg.idlePattern], mpc := .susp }
    exec .gate s = .next asleep ∧ exec .sleepEntry s = .next asleep ∧ exec .step s = .next asleep

/-- `WAKEUP` writes `mpc` only, and only at `SUSP` (R163). -/
def Obligations.WakeupLeavesSuspensionOnly : Prop :=
  ∀ s : State, s.fault = none →
    (s.mpc = .susp → exec .wakeup s = .next { s with mpc := .gate }) ∧ (s.mpc ≠ .susp → exec .wakeup s = .next s)

/-- Only a tick, a pin change, the wake-up they end with, and power-on leave SLEEPING (R165: "they are the only way to leave
SLEEPING"). -/
def Obligations.OnlyHandlersAndResetEndSuspension : Prop :=
  ∀ (i : Instr) (s t : State), s.mpc = .susp → exec i s = .next t → t.mpc ≠ .susp →
    i = .tick ∨ (∃ ph pm pw, i = .edge ph pm pw) ∨ i = .wakeup ∨ i = .reset

/-- Every tick and every pin change, whatever the levels and whether or not a check accepts, ends the suspension and writes neither
`port` nor the trace (R163, R165). -/
def Obligations.EveryHandlerEndsSuspension : Prop :=
  ∀ s : State, s.fault = none → s.mpc = .susp →
    (∃ t, exec .tick s = .next t ∧ t.mpc = .gate ∧ t.port = s.port ∧ t.trace = s.trace) ∧
    ∀ ph pm pw : Level, ∃ t, exec (.edge ph pm pw) s = .next t ∧ t.mpc = .gate ∧ t.port = s.port ∧ t.trace = s.trace

/-- An adjust press in SLEEPING is accepted, and the next `STEP` sleeps again and re-arms the debounce counter (R166, R250). -/
def Obligations.AdjustInTheDarkSleepsAgain : Prop :=
  ∀ (s : State) (ph pm : Level), s.fault = none → s.mpc = .susp → s.deb = 10 → 25 ≤ s.inact → (ph = .low ∨ pm = .low) →
    ∃ t u, exec (.edge ph pm .high) s = .next t ∧ exec .step t = .next u ∧ t.deb = 0 ∧ t.mpc = .gate ∧ t.inact = s.inact ∧
      u.mpc = .susp ∧ u.deb = 10 ∧ u.port = s.cfg.idlePattern ∧ u.hours = t.hours ∧ u.minutes = t.minutes ∧ u.seq = t.seq

/-! ## The display loop -/

/-- `WALK` emits the slot as it stands now: one write of the latch, the position moves on; from slot 10 it moves to `WALK(11)`.
`STEP` does exactly this there (R181). -/
def Obligations.WalkEmitsTheSlot : Prop :=
  ∀ (s : State) (i : Nat) (hi : i < 11), s.fault = none → s.mpc = .walk ⟨i, by omega⟩ → readSlot s.seq i ≠ 0#8 →
    let emitted : State :=
      { s with port := readSlot s.seq i, trace := s.trace ++ [readSlot s.seq i], mpc := .walk ⟨i + 1, by omega⟩ }
    exec .walk s = .next emitted ∧ exec .step s = .next emitted

/-- `PASS_END`: the sentinel ends the pass, the debounce counter goes up by one at its width, and `port` is not written (R182). -/
def Obligations.SentinelEndsThePass : Prop :=
  ∀ (s : State) (i : Nat) (hi : i < 11), s.fault = none → s.mpc = .walk ⟨i, by omega⟩ → readSlot s.seq i = 0#8 →
    exec .passEnd s = .next { s with deb := (s.deb + 1) % 2 ^ s.cfg.wDeb, mpc := .gate } ∧
    exec .step s = .next { s with deb := (s.deb + 1) % 2 ^ s.cfg.wDeb, mpc := .gate }

/-- At `WALK(11)` the step sets the fault and changes nothing else (R183). -/
def Obligations.WalkPastTheBufferSetsTheFault : Prop :=
  ∀ s : State, s.fault = none → s.mpc = .walk 11 →
    exec .walkOverrun s = .next { s with fault := some .walkOverrun } ∧
    exec .step s = .next { s with fault := some .walkOverrun }

/-- A fault is sticky: every operation but `RESET` leaves the whole state unchanged (R201; for a sub-operation by itself, log entry
5). -/
def Obligations.FaultIsStickyUntilReset : Prop :=
  ∀ (i : Instr) (s : State), s.fault ≠ none → i ≠ .reset → exec i s = .next s

/-- A `STEP` at `SUSP` is no change (R164). -/
def Obligations.StepWhileSuspendedIsNoChange : Prop :=
  ∀ s : State, s.mpc = .susp → exec .step s = .next s

/-- A pass over a sequence of length `n` is `n + 2` steps: it emits slots 0 to `n - 1` in order, counts the debounce counter once and
ends at `GATE` with the last pattern held (R182, R188; the words lined up, log entry 4). -/
def Obligations.PassEmitsTheSequenceOnce : Prop :=
  ∀ (s : State) (n : Nat) (rest : List StimWord), s.cfg.widthsOk = true → s.fault = none → s.mpc = .gate → s.inact < 25 →
    n ≤ 10 → (∀ i, i < n → readSlot s.seq i ≠ 0#8) → readSlot s.seq n = 0#8 → s.stims = passWords n ++ rest →
    runSteps (n + 2) s = .next
      { s with
        deb := (s.deb + 1) % 2 ^ s.cfg.wDeb
        port := if n = 0 then s.port else readSlot s.seq (n - 1)
        trace := s.trace ++ (List.range n).map (readSlot s.seq)
        stims := rest }

/-- `MAIN` writes `port` (with the trace), `deb`, `mpc` and the model's `fault`, and nothing else; the time of day does not bear on
what it does (R184). -/
def Obligations.MainOwnership : Prop :=
  ∀ s : State, ∃ t, exec .step s = .next t ∧
    t = { s with port := t.port, trace := t.trace, deb := t.deb, mpc := t.mpc, fault := t.fault } ∧
    ∀ h m sec : Nat, exec .step { s with hours := h, minutes := m, seconds := sec } =
      .next { t with hours := h, minutes := m, seconds := sec }

/-- Only the display loop, the power gate and power-on write the latch; `TICK`, `EDGE` and `ENCODE` never do (R29). -/
def Obligations.OnlyTheLoopAndResetWriteThePort : Prop :=
  ∀ (i : Instr) (s t : State), exec i s = .next t → (t.port ≠ s.port ∨ t.trace ≠ s.trace) →
    i = .step ∨ i = .walk ∨ i = .gate ∨ i = .sleepEntry ∨ i = .reset

/-- `port` is never read back: what the latch holds bears on nothing but the latch (R29, R54). -/
def Obligations.PortIsNeverReadBack : Prop :=
  ∀ (i : Instr) (s t : State) (p : Byte), exec i s = .next t →
    ∃ q, exec i { s with port := p } = .next { t with port := q } ∧ (t.trace ≠ s.trace → q = t.port)

/-- The torn pass: a handler served in mid-walk leaves the position and the latch, and the next `STEP` goes on from the same slot of
whatever sequence now stands (R61). -/
def Obligations.TornPassGoesOnInTheNewSequence : Prop :=
  ∀ (i : Instr) (s t : State) (k : Nat) (hk : k < 11), (i = .tick ∨ ∃ ph pm pw, i = .edge ph pm pw) → s.fault = none →
    s.mpc = .walk ⟨k, by omega⟩ → exec i s = .next t →
    t.mpc = .walk ⟨k, by omega⟩ ∧ t.port = s.port ∧ t.trace = s.trace ∧
    (readSlot t.seq k ≠ 0#8 → ∃ u, exec .step t = .next u ∧ u.port = readSlot t.seq k ∧
      u.trace = s.trace ++ [readSlot t.seq k] ∧ u.mpc = .walk ⟨k + 1, by omega⟩) ∧
    (readSlot t.seq k = 0#8 → ∃ u, exec .step t = .next u ∧ u.port = s.port ∧ u.trace = s.trace ∧ u.mpc = .gate)

/-! ## Who writes what -/

/-- The writers of `inact`: every `TICK` counts it, an accepted wake line and power-on clear it, nothing else writes it (R25). -/
def Obligations.InactivityCounterWriters : Prop :=
  ∀ (i : Instr) (s t : State), exec i s = .next t → t.inact ≠ s.inact →
    (i = .tick ∧ t.inact = (s.inact + 1) % 2 ^ s.cfg.wInact) ∨
    (((∃ ph pm, i = .edge ph pm .low) ∨ i = .chkW .low) ∧ 10 ≤ s.deb ∧ t.inact = 0 ∧ t.deb = 0) ∨
    (i = .reset ∧ t.inact = 0)

/-- The writers of `deb`: the end of a pass counts it, an accepted line clears it, going to sleep sets it to 10, power-on clears it
(R24). -/
def Obligations.DebounceCounterWriters : Prop :=
  ∀ (i : Instr) (s t : State), exec i s = .next t → t.deb ≠ s.deb →
    ((i = .step ∨ i = .passEnd) ∧ (∃ k, s.mpc = .walk k) ∧ t.deb = (s.deb + 1) % 2 ^ s.cfg.wDeb) ∨
    (((∃ ph pm pw, i = .edge ph pm pw) ∨ i = .chkH .low ∨ i = .chkM .low ∨ i = .chkW .low) ∧ 10 ≤ s.deb ∧ t.deb = 0) ∨
    ((i = .step ∨ i = .gate ∨ i = .sleepEntry) ∧ s.mpc = .gate ∧ 25 ≤ s.inact ∧ t.deb = 10) ∨
    (i = .reset ∧ t.deb = 0)

/-- The time of day and the sequence are written by the tick handler, by adjusts (under a pin change or by themselves), by the encoder
and by power-on; `MAIN` never writes them, and no slot changes under any other operation (R34, R52). -/
def Obligations.TimeAndSequenceWriters : Prop :=
  ∀ (i : Instr) (s t : State), exec i s = .next t →
    (i ≠ .tick → i ≠ .reset → t.seconds = s.seconds) ∧
    (t.hours ≠ s.hours ∨ t.minutes ≠ s.minutes ∨ (∃ a, readSlot t.seq a ≠ readSlot s.seq a) →
      i = .tick ∨ (∃ ph pm pw, i = .edge ph pm pw ∧ 10 ≤ s.deb ∧ (ph = .low ∨ pm = .low)) ∨
      i = .encode ∨ i = .adjH ∨ i = .adjM ∨ i = .chkH .low ∨ i = .chkM .low ∨ i = .reset)

/-! ## Power-on and the invariants -/

/-- `RESET` in any state: counters 0, every slot 0x00, `GATE`, no fault, the trace emptied, `port` the configuration's `PORT_RESET`, whatever
it is (R240, R6; the values are the spec's decision D14, log entry 10). -/
def Obligations.ResetCompletesInAnyState : Prop :=
  ∀ s : State, ∃ t, exec .reset s = .next t ∧ AtReset t ∧ (∀ a, readSlot t.seq a = 0#8) ∧
    t.port = s.cfg.portReset ∧ t.cfg = s.cfg ∧ t.stims = s.stims ∧ t.envDraws = s.envDraws

/-- The reset state holds the values of R35, `port` the configuration's `PORT_RESET` among them, is ACTIVE, and meets the invariant
(its configuration: log entries 2 and 3). -/
def Obligations.ResetStateMeetsTheInvariant : Prop :=
  AtReset State.reset ∧ State.reset.port = State.reset.cfg.portReset ∧ phase State.reset = .active ∧ State.reset.cfg.widthsOk = true ∧ StateInv State.reset

/-- The invariant every step keeps: counters within their widths, `SEQ` in canonical form and always the image of some
`Encode(h, m)`, the latch holding the last write of the trace (R8, R26, R54). -/
def Obligations.EveryStepKeepsTheInvariant : Prop :=
  ∀ s t : State, StateInv s → step s = .next t → StateInv t

/-- A reset state with an inert position 0 starts clear of the overrun (R35, R183). -/
def Obligations.ResetStartsClearOfTheOverrun : Prop :=
  ∀ s : State, AtReset s → TablePos0Inert s.cfg → NoOverrun s

/-- With position 0 inert no step reaches `WALK(11)` or a fault, torn passes included: `WALK_OVERRUN` is unreachable (R183, R104). -/
def Obligations.NoStepOverrunsTheBuffer : Prop :=
  ∀ s t : State, NoOverrun s → step s = .next t → NoOverrun t
end

