-- ==== Sys2Proof/Laws/State.lean ====
section
/-! SUPPORT. One lemma for each field and each named update of the state, true by definition, so that no later proof unfolds a
record update. -/

namespace Sys2Proof.Machine

@[simp] theorem State.setMpc_cfg (t : Mpc) (s : State) : (State.setMpc t s).cfg = s.cfg := rfl
@[simp] theorem State.setMpc_hours (t : Mpc) (s : State) : (State.setMpc t s).hours = s.hours := rfl
@[simp] theorem State.setMpc_minutes (t : Mpc) (s : State) : (State.setMpc t s).minutes = s.minutes := rfl
@[simp] theorem State.setMpc_seconds (t : Mpc) (s : State) : (State.setMpc t s).seconds = s.seconds := rfl
@[simp] theorem State.setMpc_deb (t : Mpc) (s : State) : (State.setMpc t s).deb = s.deb := rfl
@[simp] theorem State.setMpc_inact (t : Mpc) (s : State) : (State.setMpc t s).inact = s.inact := rfl
@[simp] theorem State.setMpc_seq (t : Mpc) (s : State) : (State.setMpc t s).seq = s.seq := rfl
@[simp] theorem State.setMpc_mpc (t : Mpc) (s : State) : (State.setMpc t s).mpc = t := rfl
@[simp] theorem State.setMpc_port (t : Mpc) (s : State) : (State.setMpc t s).port = s.port := rfl
@[simp] theorem State.setMpc_fault (t : Mpc) (s : State) : (State.setMpc t s).fault = s.fault := rfl
@[simp] theorem State.setMpc_trace (t : Mpc) (s : State) : (State.setMpc t s).trace = s.trace := rfl
@[simp] theorem State.setMpc_stims (t : Mpc) (s : State) : (State.setMpc t s).stims = s.stims := rfl
@[simp] theorem State.setMpc_envDraws (t : Mpc) (s : State) : (State.setMpc t s).envDraws = s.envDraws := rfl

@[simp] theorem State.setDeb_cfg (n : Nat) (s : State) : (State.setDeb n s).cfg = s.cfg := rfl
@[simp] theorem State.setDeb_hours (n : Nat) (s : State) : (State.setDeb n s).hours = s.hours := rfl
@[simp] theorem State.setDeb_minutes (n : Nat) (s : State) : (State.setDeb n s).minutes = s.minutes := rfl
@[simp] theorem State.setDeb_seconds (n : Nat) (s : State) : (State.setDeb n s).seconds = s.seconds := rfl
@[simp] theorem State.setDeb_deb (n : Nat) (s : State) : (State.setDeb n s).deb = n := rfl
@[simp] theorem State.setDeb_inact (n : Nat) (s : State) : (State.setDeb n s).inact = s.inact := rfl
@[simp] theorem State.setDeb_seq (n : Nat) (s : State) : (State.setDeb n s).seq = s.seq := rfl
@[simp] theorem State.setDeb_mpc (n : Nat) (s : State) : (State.setDeb n s).mpc = s.mpc := rfl
@[simp] theorem State.setDeb_port (n : Nat) (s : State) : (State.setDeb n s).port = s.port := rfl
@[simp] theorem State.setDeb_fault (n : Nat) (s : State) : (State.setDeb n s).fault = s.fault := rfl
@[simp] theorem State.setDeb_trace (n : Nat) (s : State) : (State.setDeb n s).trace = s.trace := rfl
@[simp] theorem State.setDeb_stims (n : Nat) (s : State) : (State.setDeb n s).stims = s.stims := rfl
@[simp] theorem State.setDeb_envDraws (n : Nat) (s : State) : (State.setDeb n s).envDraws = s.envDraws := rfl

@[simp] theorem State.setInact_cfg (n : Nat) (s : State) : (State.setInact n s).cfg = s.cfg := rfl
@[simp] theorem State.setInact_hours (n : Nat) (s : State) : (State.setInact n s).hours = s.hours := rfl
@[simp] theorem State.setInact_minutes (n : Nat) (s : State) : (State.setInact n s).minutes = s.minutes := rfl
@[simp] theorem State.setInact_seconds (n : Nat) (s : State) : (State.setInact n s).seconds = s.seconds := rfl
@[simp] theorem State.setInact_deb (n : Nat) (s : State) : (State.setInact n s).deb = s.deb := rfl
@[simp] theorem State.setInact_inact (n : Nat) (s : State) : (State.setInact n s).inact = n := rfl
@[simp] theorem State.setInact_seq (n : Nat) (s : State) : (State.setInact n s).seq = s.seq := rfl
@[simp] theorem State.setInact_mpc (n : Nat) (s : State) : (State.setInact n s).mpc = s.mpc := rfl
@[simp] theorem State.setInact_port (n : Nat) (s : State) : (State.setInact n s).port = s.port := rfl
@[simp] theorem State.setInact_fault (n : Nat) (s : State) : (State.setInact n s).fault = s.fault := rfl
@[simp] theorem State.setInact_trace (n : Nat) (s : State) : (State.setInact n s).trace = s.trace := rfl
@[simp] theorem State.setInact_stims (n : Nat) (s : State) : (State.setInact n s).stims = s.stims := rfl
@[simp] theorem State.setInact_envDraws (n : Nat) (s : State) : (State.setInact n s).envDraws = s.envDraws := rfl

@[simp] theorem State.incHours_cfg (s : State) : (State.incHours s).cfg = s.cfg := rfl
@[simp] theorem State.incHours_hours (s : State) : (State.incHours s).hours = incW s.cfg.wHours s.hours := rfl
@[simp] theorem State.incHours_minutes (s : State) : (State.incHours s).minutes = s.minutes := rfl
@[simp] theorem State.incHours_seconds (s : State) : (State.incHours s).seconds = s.seconds := rfl
@[simp] theorem State.incHours_deb (s : State) : (State.incHours s).deb = s.deb := rfl
@[simp] theorem State.incHours_inact (s : State) : (State.incHours s).inact = s.inact := rfl
@[simp] theorem State.incHours_seq (s : State) : (State.incHours s).seq = s.seq := rfl
@[simp] theorem State.incHours_mpc (s : State) : (State.incHours s).mpc = s.mpc := rfl
@[simp] theorem State.incHours_port (s : State) : (State.incHours s).port = s.port := rfl
@[simp] theorem State.incHours_fault (s : State) : (State.incHours s).fault = s.fault := rfl
@[simp] theorem State.incHours_trace (s : State) : (State.incHours s).trace = s.trace := rfl
@[simp] theorem State.incHours_stims (s : State) : (State.incHours s).stims = s.stims := rfl
@[simp] theorem State.incHours_envDraws (s : State) : (State.incHours s).envDraws = s.envDraws := rfl

@[simp] theorem State.incMinutes_cfg (s : State) : (State.incMinutes s).cfg = s.cfg := rfl
@[simp] theorem State.incMinutes_hours (s : State) : (State.incMinutes s).hours = s.hours := rfl
@[simp] theorem State.incMinutes_minutes (s : State) : (State.incMinutes s).minutes = incW s.cfg.wMin s.minutes := rfl
@[simp] theorem State.incMinutes_seconds (s : State) : (State.incMinutes s).seconds = s.seconds := rfl
@[simp] theorem State.incMinutes_deb (s : State) : (State.incMinutes s).deb = s.deb := rfl
@[simp] theorem State.incMinutes_inact (s : State) : (State.incMinutes s).inact = s.inact := rfl
@[simp] theorem State.incMinutes_seq (s : State) : (State.incMinutes s).seq = s.seq := rfl
@[simp] theorem State.incMinutes_mpc (s : State) : (State.incMinutes s).mpc = s.mpc := rfl
@[simp] theorem State.incMinutes_port (s : State) : (State.incMinutes s).port = s.port := rfl
@[simp] theorem State.incMinutes_fault (s : State) : (State.incMinutes s).fault = s.fault := rfl
@[simp] theorem State.incMinutes_trace (s : State) : (State.incMinutes s).trace = s.trace := rfl
@[simp] theorem State.incMinutes_stims (s : State) : (State.incMinutes s).stims = s.stims := rfl
@[simp] theorem State.incMinutes_envDraws (s : State) : (State.incMinutes s).envDraws = s.envDraws := rfl

@[simp] theorem State.storeSeq_cfg (V : List Byte) (s : State) : (State.storeSeq V s).cfg = s.cfg := rfl
@[simp] theorem State.storeSeq_hours (V : List Byte) (s : State) : (State.storeSeq V s).hours = s.hours := rfl
@[simp] theorem State.storeSeq_minutes (V : List Byte) (s : State) : (State.storeSeq V s).minutes = s.minutes := rfl
@[simp] theorem State.storeSeq_seconds (V : List Byte) (s : State) : (State.storeSeq V s).seconds = s.seconds := rfl
@[simp] theorem State.storeSeq_deb (V : List Byte) (s : State) : (State.storeSeq V s).deb = s.deb := rfl
@[simp] theorem State.storeSeq_inact (V : List Byte) (s : State) : (State.storeSeq V s).inact = s.inact := rfl
@[simp] theorem State.storeSeq_seq (V : List Byte) (s : State) : (State.storeSeq V s).seq = cellsFrom 0 V := rfl
@[simp] theorem State.storeSeq_mpc (V : List Byte) (s : State) : (State.storeSeq V s).mpc = s.mpc := rfl
@[simp] theorem State.storeSeq_port (V : List Byte) (s : State) : (State.storeSeq V s).port = s.port := rfl
@[simp] theorem State.storeSeq_fault (V : List Byte) (s : State) : (State.storeSeq V s).fault = s.fault := rfl
@[simp] theorem State.storeSeq_trace (V : List Byte) (s : State) : (State.storeSeq V s).trace = s.trace := rfl
@[simp] theorem State.storeSeq_stims (V : List Byte) (s : State) : (State.storeSeq V s).stims = s.stims := rfl
@[simp] theorem State.storeSeq_envDraws (V : List Byte) (s : State) : (State.storeSeq V s).envDraws = s.envDraws := rfl

@[simp] theorem State.refresh_cfg (s : State) : (State.refresh s).cfg = s.cfg := rfl
@[simp] theorem State.refresh_hours (s : State) : (State.refresh s).hours = s.hours := rfl
@[simp] theorem State.refresh_minutes (s : State) : (State.refresh s).minutes = s.minutes := rfl
@[simp] theorem State.refresh_seconds (s : State) : (State.refresh s).seconds = s.seconds := rfl
@[simp] theorem State.refresh_deb (s : State) : (State.refresh s).deb = s.deb := rfl
@[simp] theorem State.refresh_inact (s : State) : (State.refresh s).inact = s.inact := rfl
@[simp] theorem State.refresh_seq (s : State) : (State.refresh s).seq = cellsFrom 0 (encodeSlots s.cfg s.hours s.minutes) := rfl
@[simp] theorem State.refresh_mpc (s : State) : (State.refresh s).mpc = s.mpc := rfl
@[simp] theorem State.refresh_port (s : State) : (State.refresh s).port = s.port := rfl
@[simp] theorem State.refresh_fault (s : State) : (State.refresh s).fault = s.fault := rfl
@[simp] theorem State.refresh_trace (s : State) : (State.refresh s).trace = s.trace := rfl
@[simp] theorem State.refresh_stims (s : State) : (State.refresh s).stims = s.stims := rfl
@[simp] theorem State.refresh_envDraws (s : State) : (State.refresh s).envDraws = s.envDraws := rfl

@[simp] theorem State.writePort_cfg (v : Byte) (s : State) : (State.writePort v s).cfg = s.cfg := rfl
@[simp] theorem State.writePort_hours (v : Byte) (s : State) : (State.writePort v s).hours = s.hours := rfl
@[simp] theorem State.writePort_minutes (v : Byte) (s : State) : (State.writePort v s).minutes = s.minutes := rfl
@[simp] theorem State.writePort_seconds (v : Byte) (s : State) : (State.writePort v s).seconds = s.seconds := rfl
@[simp] theorem State.writePort_deb (v : Byte) (s : State) : (State.writePort v s).deb = s.deb := rfl
@[simp] theorem State.writePort_inact (v : Byte) (s : State) : (State.writePort v s).inact = s.inact := rfl
@[simp] theorem State.writePort_seq (v : Byte) (s : State) : (State.writePort v s).seq = s.seq := rfl
@[simp] theorem State.writePort_mpc (v : Byte) (s : State) : (State.writePort v s).mpc = s.mpc := rfl
@[simp] theorem State.writePort_port (v : Byte) (s : State) : (State.writePort v s).port = v := rfl
@[simp] theorem State.writePort_fault (v : Byte) (s : State) : (State.writePort v s).fault = s.fault := rfl
@[simp] theorem State.writePort_trace (v : Byte) (s : State) : (State.writePort v s).trace = s.trace ++ [v] := rfl
@[simp] theorem State.writePort_stims (v : Byte) (s : State) : (State.writePort v s).stims = s.stims := rfl
@[simp] theorem State.writePort_envDraws (v : Byte) (s : State) : (State.writePort v s).envDraws = s.envDraws := rfl

@[simp] theorem State.raise_cfg (f : Fault) (s : State) : (State.raise f s).cfg = s.cfg := rfl
@[simp] theorem State.raise_hours (f : Fault) (s : State) : (State.raise f s).hours = s.hours := rfl
@[simp] theorem State.raise_minutes (f : Fault) (s : State) : (State.raise f s).minutes = s.minutes := rfl
@[simp] theorem State.raise_seconds (f : Fault) (s : State) : (State.raise f s).seconds = s.seconds := rfl
@[simp] theorem State.raise_deb (f : Fault) (s : State) : (State.raise f s).deb = s.deb := rfl
@[simp] theorem State.raise_inact (f : Fault) (s : State) : (State.raise f s).inact = s.inact := rfl
@[simp] theorem State.raise_seq (f : Fault) (s : State) : (State.raise f s).seq = s.seq := rfl
@[simp] theorem State.raise_mpc (f : Fault) (s : State) : (State.raise f s).mpc = s.mpc := rfl
@[simp] theorem State.raise_port (f : Fault) (s : State) : (State.raise f s).port = s.port := rfl
@[simp] theorem State.raise_fault (f : Fault) (s : State) : (State.raise f s).fault = some f := rfl
@[simp] theorem State.raise_trace (f : Fault) (s : State) : (State.raise f s).trace = s.trace := rfl
@[simp] theorem State.raise_stims (f : Fault) (s : State) : (State.raise f s).stims = s.stims := rfl
@[simp] theorem State.raise_envDraws (f : Fault) (s : State) : (State.raise f s).envDraws = s.envDraws := rfl

@[simp] theorem State.powerOn_cfg (s : State) : (State.powerOn s).cfg = s.cfg := rfl
@[simp] theorem State.powerOn_hours (s : State) : (State.powerOn s).hours = 0 := rfl
@[simp] theorem State.powerOn_minutes (s : State) : (State.powerOn s).minutes = 0 := rfl
@[simp] theorem State.powerOn_seconds (s : State) : (State.powerOn s).seconds = 0 := rfl
@[simp] theorem State.powerOn_deb (s : State) : (State.powerOn s).deb = 0 := rfl
@[simp] theorem State.powerOn_inact (s : State) : (State.powerOn s).inact = 0 := rfl
@[simp] theorem State.powerOn_seq (s : State) : (State.powerOn s).seq = [] := rfl
@[simp] theorem State.powerOn_mpc (s : State) : (State.powerOn s).mpc = .gate := rfl
@[simp] theorem State.powerOn_port (s : State) : (State.powerOn s).port = s.cfg.portReset := rfl
@[simp] theorem State.powerOn_fault (s : State) : (State.powerOn s).fault = none := rfl
@[simp] theorem State.powerOn_trace (s : State) : (State.powerOn s).trace = [] := rfl
@[simp] theorem State.powerOn_stims (s : State) : (State.powerOn s).stims = s.stims := rfl
@[simp] theorem State.powerOn_envDraws (s : State) : (State.powerOn s).envDraws = s.envDraws := rfl

/-! ## The same for taking and lining up a stimulus -/

@[simp] theorem takeWord_cfg (s : State) : (takeWord s).cfg = s.cfg := by unfold takeWord; split <;> rfl
@[simp] theorem takeWord_hours (s : State) : (takeWord s).hours = s.hours := by unfold takeWord; split <;> rfl
@[simp] theorem takeWord_minutes (s : State) : (takeWord s).minutes = s.minutes := by unfold takeWord; split <;> rfl
@[simp] theorem takeWord_seconds (s : State) : (takeWord s).seconds = s.seconds := by unfold takeWord; split <;> rfl
@[simp] theorem takeWord_deb (s : State) : (takeWord s).deb = s.deb := by unfold takeWord; split <;> rfl
@[simp] theorem takeWord_inact (s : State) : (takeWord s).inact = s.inact := by unfold takeWord; split <;> rfl
@[simp] theorem takeWord_seq (s : State) : (takeWord s).seq = s.seq := by unfold takeWord; split <;> rfl
@[simp] theorem takeWord_mpc (s : State) : (takeWord s).mpc = s.mpc := by unfold takeWord; split <;> rfl
@[simp] theorem takeWord_port (s : State) : (takeWord s).port = s.port := by unfold takeWord; split <;> rfl
@[simp] theorem takeWord_fault (s : State) : (takeWord s).fault = s.fault := by unfold takeWord; split <;> rfl
@[simp] theorem takeWord_trace (s : State) : (takeWord s).trace = s.trace := by unfold takeWord; split <;> rfl

@[simp] theorem offerWord_cfg (w : StimWord) (s : State) : (offerWord w s).cfg = s.cfg := rfl
@[simp] theorem offerWord_hours (w : StimWord) (s : State) : (offerWord w s).hours = s.hours := rfl
@[simp] theorem offerWord_minutes (w : StimWord) (s : State) : (offerWord w s).minutes = s.minutes := rfl
@[simp] theorem offerWord_seconds (w : StimWord) (s : State) : (offerWord w s).seconds = s.seconds := rfl
@[simp] theorem offerWord_deb (w : StimWord) (s : State) : (offerWord w s).deb = s.deb := rfl
@[simp] theorem offerWord_inact (w : StimWord) (s : State) : (offerWord w s).inact = s.inact := rfl
@[simp] theorem offerWord_seq (w : StimWord) (s : State) : (offerWord w s).seq = s.seq := rfl
@[simp] theorem offerWord_mpc (w : StimWord) (s : State) : (offerWord w s).mpc = s.mpc := rfl
@[simp] theorem offerWord_port (w : StimWord) (s : State) : (offerWord w s).port = s.port := rfl
@[simp] theorem offerWord_fault (w : StimWord) (s : State) : (offerWord w s).fault = s.fault := rfl
@[simp] theorem offerWord_trace (w : StimWord) (s : State) : (offerWord w s).trace = s.trace := rfl
@[simp] theorem offerWord_stims (w : StimWord) (s : State) : (offerWord w s).stims = w :: s.stims := rfl
@[simp] theorem offerWord_envDraws (w : StimWord) (s : State) : (offerWord w s).envDraws = s.envDraws := rfl

/-- A stimulus lined up is the next one taken. -/
@[simp] theorem nextWord_offerWord (w : StimWord) (s : State) : nextWord (offerWord w s) = w := rfl

/-- Taking a lined-up stimulus leaves the state it was lined up on. -/
@[simp] theorem takeWord_offerWord (w : StimWord) (s : State) : takeWord (offerWord w s) = s := rfl

end Sys2Proof.Machine
end

