-- ==== Sys2Proof/Laws/Memory.lean ====
section
/-! SUPPORT. The space `SEQ`: what a slot reads as after the whole-buffer write, that every write keeps the canonical form, and that
`Encode` always gives 11 slots. -/

namespace Sys2Proof.Machine

theorem readSlot_cellsFrom (V : List Byte) (i j : Nat) :
    readSlot (cellsFrom i V) j = if i ≤ j then V.getD (j - i) sentinel else sentinel := by
  induction V generalizing i with
  | nil => simp [cellsFrom, readSlot]
  | cons b bs ih =>
    have hsub : i < j → j - i = (j - (i + 1)) + 1 := by omega
    by_cases hb : b = Memory.unlisted
    · rw [cellsFrom, if_pos hb, ih]
      rcases lt_trichotomy i j with h | h | h
      · simp [Nat.succ_le_of_lt h, h.le, hsub h]
      · subst h; simp [hb]
      · simp [Nat.not_le.2 h, show ¬ i + 1 ≤ j by omega]
    · rw [cellsFrom, if_neg hb, readSlot, ih]
      rcases lt_trichotomy i j with h | h | h
      · simp [h.ne, Nat.succ_le_of_lt h, h.le, hsub h]
      · subst h; simp
      · simp [h.ne', Nat.not_le.2 h, show ¬ i + 1 ≤ j by omega]

/-- What a slot reads as after `seq <- V`. -/
@[simp] theorem readSlot_store (V : List Byte) (i : Nat) : readSlot (cellsFrom 0 V) i = V.getD i sentinel := by
  simp [readSlot_cellsFrom]

theorem cellsFrom_slots (V : List Byte) (i : Nat) :
    ∀ c ∈ cellsFrom i V, i ≤ c.1 ∧ c.1 < i + V.length ∧ c.2 ≠ Memory.unlisted := by
  induction V generalizing i with
  | nil => simp [cellsFrom]
  | cons b bs ih =>
    intro c hc
    rw [cellsFrom] at hc
    split at hc
    · have := ih (i + 1) c hc
      simp only [List.length_cons]
      exact ⟨by omega, by omega, this.2.2⟩
    · rename_i hb
      rcases List.mem_cons.1 hc with rfl | hc
      · exact ⟨le_rfl, by simp, hb⟩
      · have := ih (i + 1) c hc
        simp only [List.length_cons]
        exact ⟨by omega, by omega, this.2.2⟩

theorem cellsFrom_rising (V : List Byte) (i : Nat) : ((cellsFrom i V).map Prod.fst).Pairwise (· < ·) := by
  induction V generalizing i with
  | nil => simp [cellsFrom]
  | cons b bs ih =>
    rw [cellsFrom]
    split
    · exact ih (i + 1)
    · rw [List.map_cons, List.pairwise_cons]
      refine ⟨fun a ha => ?_, ih (i + 1)⟩
      obtain ⟨c, hc, rfl⟩ := List.mem_map.1 ha
      have := cellsFrom_slots bs (i + 1) c hc
      exact Nat.lt_of_succ_le this.1

/-- The whole-buffer write gives the canonical form. -/
theorem store_wf (V : List Byte) (h : V.length ≤ nSlots) : Memory.wf (cellsFrom 0 V) :=
  ⟨cellsFrom_rising V 0, fun c hc => ⟨by have := cellsFrom_slots V 0 c hc; omega, (cellsFrom_slots V 0 c hc).2.2⟩⟩

/-- The reset contents are in the canonical form. -/
theorem reset_seq_wf : Memory.wf State.reset.seq := by decide

@[simp] theorem encodeWalk_length (tw : TimeWord) (es : List Entry) (V : List Byte) (n : Nat) :
    (encodeWalk tw es V n).length = V.length := by
  induction es generalizing V n with
  | nil => rfl
  | cons e es ih => rw [encodeWalk]; split <;> simp [ih]

/-- `Encode` gives 11 slots. -/
@[simp] theorem encodeSlots_length (c : Config) (h m : Nat) : (encodeSlots c h m).length = nSlots := by
  unfold encodeSlots; split <;> simp

/-- Every refresh leaves `SEQ` in the canonical form. -/
theorem refresh_wf (s : State) : Memory.wf s.refresh.seq :=
  store_wf _ (by simp)

end Sys2Proof.Machine
end

