-- ==== Sys2Proof/Laws/Ops.lean ====
section
/-! SUPPORT. For each shared operation, everything it can do, said once; and what a step can do. -/

namespace Sys2Proof.Machine

/-! ## Arithmetic and conditions -/

theorem incW_lt (W x : Nat) : incW W x < 2 ^ W := Nat.mod_lt _ (by positivity)

theorem incW_of_lt (W x : Nat) (h : x + 1 < 2 ^ W) : incW W x = x + 1 := Nat.mod_eq_of_lt h

@[simp] theorem roll_eq (x N : Nat) : roll .eq x N = decide (x = N) := rfl
@[simp] theorem roll_ge (x N : Nat) : roll .ge x N = decide (N ≤ x) := rfl

/-- Below the modulus neither comparison fires. -/
theorem roll_of_lt (c : RollCmp) (x N : Nat) (h : x < N) : roll c x N = false := by
  cases c <;> simp <;> omega

/-- At the modulus both fire. -/
theorem roll_self (c : RollCmp) (N : Nat) : roll c N N = true := by
  cases c <;> simp

theorem accepts_iff (l : Level) (d : Nat) : accepts l d = true ↔ l = .low ∧ debThreshold ≤ d := by
  cases l <;> simp [accepts, pressed, debReady]

theorem accepts_eq (l : Level) (d : Nat) : accepts l d = decide (l = .low ∧ debThreshold ≤ d) := by
  rw [Bool.eq_iff_iff, accepts_iff, decide_eq_true_eq]

/-- After an accepted check no line is accepted. -/
theorem accepts_zero (l : Level) : accepts l 0 = false := by
  cases l <;> rfl

/-! ## Guards and handlers -/

theorem unlessFaulted_of_none (op : State → State) (s : State) (h : s.fault = none) : unlessFaulted op s = op s := by
  simp [unlessFaulted, h]

theorem unlessFaulted_of_fault (op : State → State) (s : State) (h : s.fault ≠ none) : unlessFaulted op s = s := by
  cases hf : s.fault with
  | none => exact absurd hf h
  | some f => simp [unlessFaulted, hf]

/-- A guarded operation runs, or nothing changes. -/
theorem unlessFaulted_cases (op : State → State) (s : State) :
    (s.fault = none ∧ unlessFaulted op s = op s) ∨ (s.fault ≠ none ∧ unlessFaulted op s = s) := by
  by_cases h : s.fault = none
  · exact .inl ⟨h, unlessFaulted_of_none op s h⟩
  · exact .inr ⟨h, unlessFaulted_of_fault op s h⟩

/-- A sub-operation runs where it is selected and no fault is set; elsewhere nothing changes. -/
theorem whenSelected_cases (b : Bool) (op : State → State) (s : State) :
    (b = true ∧ s.fault = none ∧ whenSelected b op s = op s) ∨ whenSelected b op s = s := by
  cases b
  · exact .inr rfl
  · rcases unlessFaulted_cases op s with ⟨h, e⟩ | ⟨_, e⟩
    · exact .inl ⟨rfl, h, e⟩
    · exact .inr e

theorem wake_of_susp (s : State) (h : s.mpc = .susp) : s.wake = s.setMpc .gate := by
  simp [State.wake, h]

theorem wake_of_ne (s : State) (h : s.mpc ≠ .susp) : s.wake = s := by
  unfold State.wake
  split
  · rename_i h'; exact absurd h' h
  · rfl
  · rfl

/-- The suspend primitive returns, or nothing changes. -/
theorem wake_cases (s : State) : (s.mpc = .susp ∧ s.wake = s.setMpc .gate) ∨ (s.mpc ≠ .susp ∧ s.wake = s) := by
  by_cases h : s.mpc = .susp
  · exact .inl ⟨h, wake_of_susp s h⟩
  · exact .inr ⟨h, wake_of_ne s h⟩

/-- `wake` writes `mpc` only, and only at `SUSP`. -/
theorem wake_eq (s : State) : s.wake = { s with mpc := if s.mpc = .susp then .gate else s.mpc } := by
  rcases wake_cases s with ⟨h, e⟩ | ⟨h, e⟩
  · rw [e, if_pos h]; rfl
  · rw [e, if_neg h]

theorem serveHandler_of_none (body : State → State) (s : State) (h : s.fault = none) :
    serveHandler body s = (body s).wake := unlessFaulted_of_none _ s h

theorem serveHandler_of_fault (body : State → State) (s : State) (h : s.fault ≠ none) :
    serveHandler body s = s := unlessFaulted_of_fault _ s h

/-! ## What a step can do -/

/-- A step that answers a next state serves the decoded next stimulus of a well-formed configuration. -/
theorem step_cases {s t : State} (h : step s = .next t) :
    s.cfg.widthsOk = true ∧ exec (decodeWord (nextWord s)) (takeWord s) = .next t := by
  unfold step at h
  split at h
  · exact ⟨‹_›, h⟩
  · cases h

/-- A decoded word is one of the four stimuli. -/
theorem decodeWord_cases (w : StimWord) :
    decodeWord w = .step ∨ decodeWord w = .tick ∨ (∃ h m p, decodeWord w = .edge h m p) ∨ decodeWord w = .reset := by
  unfold decodeWord
  split
  · exact .inl rfl
  · exact .inr (.inl rfl)
  · exact .inr (.inr (.inl ⟨_, _, _, rfl⟩))
  · exact .inr (.inr (.inr rfl))

end Sys2Proof.Machine
end

