-- ==== Sys2Proof/Laws/Frames.lean ====
section
/-! SUPPORT. The frame of each body: one lemma for each field an operation does not write. -/

namespace Sys2Proof.Machine

@[simp] theorem State.wake_cfg (s : State) : (State.wake s).cfg = s.cfg := by unfold State.wake; split <;> rfl
@[simp] theorem State.wake_hours (s : State) : (State.wake s).hours = s.hours := by unfold State.wake; split <;> rfl
@[simp] theorem State.wake_minutes (s : State) : (State.wake s).minutes = s.minutes := by unfold State.wake; split <;> rfl
@[simp] theorem State.wake_seconds (s : State) : (State.wake s).seconds = s.seconds := by unfold State.wake; split <;> rfl
@[simp] theorem State.wake_deb (s : State) : (State.wake s).deb = s.deb := by unfold State.wake; split <;> rfl
@[simp] theorem State.wake_inact (s : State) : (State.wake s).inact = s.inact := by unfold State.wake; split <;> rfl
@[simp] theorem State.wake_seq (s : State) : (State.wake s).seq = s.seq := by unfold State.wake; split <;> rfl
@[simp] theorem State.wake_port (s : State) : (State.wake s).port = s.port := by unfold State.wake; split <;> rfl
@[simp] theorem State.wake_fault (s : State) : (State.wake s).fault = s.fault := by unfold State.wake; split <;> rfl
@[simp] theorem State.wake_trace (s : State) : (State.wake s).trace = s.trace := by unfold State.wake; split <;> rfl
@[simp] theorem State.wake_stims (s : State) : (State.wake s).stims = s.stims := by unfold State.wake; split <;> rfl
@[simp] theorem State.wake_envDraws (s : State) : (State.wake s).envDraws = s.envDraws := by unfold State.wake; split <;> rfl

@[simp] theorem tickCount_cfg (s : State) : (tickCount s).cfg = s.cfg := rfl
@[simp] theorem tickCount_hours (s : State) : (tickCount s).hours = s.hours := rfl
@[simp] theorem tickCount_minutes (s : State) : (tickCount s).minutes = s.minutes := rfl
@[simp] theorem tickCount_deb (s : State) : (tickCount s).deb = s.deb := rfl
@[simp] theorem tickCount_seq (s : State) : (tickCount s).seq = s.seq := rfl
@[simp] theorem tickCount_mpc (s : State) : (tickCount s).mpc = s.mpc := rfl
@[simp] theorem tickCount_port (s : State) : (tickCount s).port = s.port := rfl
@[simp] theorem tickCount_fault (s : State) : (tickCount s).fault = s.fault := rfl
@[simp] theorem tickCount_trace (s : State) : (tickCount s).trace = s.trace := rfl
@[simp] theorem tickCount_stims (s : State) : (tickCount s).stims = s.stims := rfl
@[simp] theorem tickCount_envDraws (s : State) : (tickCount s).envDraws = s.envDraws := rfl

@[simp] theorem rollSeconds_cfg (s : State) : (rollSeconds s).cfg = s.cfg := by unfold rollSeconds; split <;> rfl
@[simp] theorem rollSeconds_hours (s : State) : (rollSeconds s).hours = s.hours := by unfold rollSeconds; split <;> rfl
@[simp] theorem rollSeconds_deb (s : State) : (rollSeconds s).deb = s.deb := by unfold rollSeconds; split <;> rfl
@[simp] theorem rollSeconds_inact (s : State) : (rollSeconds s).inact = s.inact := by unfold rollSeconds; split <;> rfl
@[simp] theorem rollSeconds_mpc (s : State) : (rollSeconds s).mpc = s.mpc := by unfold rollSeconds; split <;> rfl
@[simp] theorem rollSeconds_port (s : State) : (rollSeconds s).port = s.port := by unfold rollSeconds; split <;> rfl
@[simp] theorem rollSeconds_fault (s : State) : (rollSeconds s).fault = s.fault := by unfold rollSeconds; split <;> rfl
@[simp] theorem rollSeconds_trace (s : State) : (rollSeconds s).trace = s.trace := by unfold rollSeconds; split <;> rfl
@[simp] theorem rollSeconds_stims (s : State) : (rollSeconds s).stims = s.stims := by unfold rollSeconds; split <;> rfl
@[simp] theorem rollSeconds_envDraws (s : State) : (rollSeconds s).envDraws = s.envDraws := by unfold rollSeconds; split <;> rfl

@[simp] theorem rollMinutes_cfg (s : State) : (rollMinutes s).cfg = s.cfg := by unfold rollMinutes; split <;> rfl
@[simp] theorem rollMinutes_seconds (s : State) : (rollMinutes s).seconds = s.seconds := by unfold rollMinutes; split <;> rfl
@[simp] theorem rollMinutes_deb (s : State) : (rollMinutes s).deb = s.deb := by unfold rollMinutes; split <;> rfl
@[simp] theorem rollMinutes_inact (s : State) : (rollMinutes s).inact = s.inact := by unfold rollMinutes; split <;> rfl
@[simp] theorem rollMinutes_seq (s : State) : (rollMinutes s).seq = s.seq := by unfold rollMinutes; split <;> rfl
@[simp] theorem rollMinutes_mpc (s : State) : (rollMinutes s).mpc = s.mpc := by unfold rollMinutes; split <;> rfl
@[simp] theorem rollMinutes_port (s : State) : (rollMinutes s).port = s.port := by unfold rollMinutes; split <;> rfl
@[simp] theorem rollMinutes_fault (s : State) : (rollMinutes s).fault = s.fault := by unfold rollMinutes; split <;> rfl
@[simp] theorem rollMinutes_trace (s : State) : (rollMinutes s).trace = s.trace := by unfold rollMinutes; split <;> rfl
@[simp] theorem rollMinutes_stims (s : State) : (rollMinutes s).stims = s.stims := by unfold rollMinutes; split <;> rfl
@[simp] theorem rollMinutes_envDraws (s : State) : (rollMinutes s).envDraws = s.envDraws := by unfold rollMinutes; split <;> rfl

@[simp] theorem rollHours_cfg (s : State) : (rollHours s).cfg = s.cfg := by unfold rollHours; split <;> rfl
@[simp] theorem rollHours_minutes (s : State) : (rollHours s).minutes = s.minutes := by unfold rollHours; split <;> rfl
@[simp] theorem rollHours_seconds (s : State) : (rollHours s).seconds = s.seconds := by unfold rollHours; split <;> rfl
@[simp] theorem rollHours_deb (s : State) : (rollHours s).deb = s.deb := by unfold rollHours; split <;> rfl
@[simp] theorem rollHours_inact (s : State) : (rollHours s).inact = s.inact := by unfold rollHours; split <;> rfl
@[simp] theorem rollHours_seq (s : State) : (rollHours s).seq = s.seq := by unfold rollHours; split <;> rfl
@[simp] theorem rollHours_mpc (s : State) : (rollHours s).mpc = s.mpc := by unfold rollHours; split <;> rfl
@[simp] theorem rollHours_port (s : State) : (rollHours s).port = s.port := by unfold rollHours; split <;> rfl
@[simp] theorem rollHours_fault (s : State) : (rollHours s).fault = s.fault := by unfold rollHours; split <;> rfl
@[simp] theorem rollHours_trace (s : State) : (rollHours s).trace = s.trace := by unfold rollHours; split <;> rfl
@[simp] theorem rollHours_stims (s : State) : (rollHours s).stims = s.stims := by unfold rollHours; split <;> rfl
@[simp] theorem rollHours_envDraws (s : State) : (rollHours s).envDraws = s.envDraws := by unfold rollHours; split <;> rfl

@[simp] theorem tickBody_cfg (s : State) : (tickBody s).cfg = s.cfg := by simp [tickBody]
@[simp] theorem tickBody_deb (s : State) : (tickBody s).deb = s.deb := by simp [tickBody]
@[simp] theorem tickBody_mpc (s : State) : (tickBody s).mpc = s.mpc := by simp [tickBody]
@[simp] theorem tickBody_port (s : State) : (tickBody s).port = s.port := by simp [tickBody]
@[simp] theorem tickBody_fault (s : State) : (tickBody s).fault = s.fault := by simp [tickBody]
@[simp] theorem tickBody_trace (s : State) : (tickBody s).trace = s.trace := by simp [tickBody]
@[simp] theorem tickBody_stims (s : State) : (tickBody s).stims = s.stims := by simp [tickBody]
@[simp] theorem tickBody_envDraws (s : State) : (tickBody s).envDraws = s.envDraws := by simp [tickBody]

@[simp] theorem adjustHours_cfg (s : State) : (adjustHours s).cfg = s.cfg := rfl
@[simp] theorem adjustHours_minutes (s : State) : (adjustHours s).minutes = s.minutes := rfl
@[simp] theorem adjustHours_seconds (s : State) : (adjustHours s).seconds = s.seconds := rfl
@[simp] theorem adjustHours_deb (s : State) : (adjustHours s).deb = s.deb := rfl
@[simp] theorem adjustHours_inact (s : State) : (adjustHours s).inact = s.inact := rfl
@[simp] theorem adjustHours_mpc (s : State) : (adjustHours s).mpc = s.mpc := rfl
@[simp] theorem adjustHours_port (s : State) : (adjustHours s).port = s.port := rfl
@[simp] theorem adjustHours_fault (s : State) : (adjustHours s).fault = s.fault := rfl
@[simp] theorem adjustHours_trace (s : State) : (adjustHours s).trace = s.trace := rfl
@[simp] theorem adjustHours_stims (s : State) : (adjustHours s).stims = s.stims := rfl
@[simp] theorem adjustHours_envDraws (s : State) : (adjustHours s).envDraws = s.envDraws := rfl

@[simp] theorem adjustMinutes_cfg (s : State) : (adjustMinutes s).cfg = s.cfg := rfl
@[simp] theorem adjustMinutes_hours (s : State) : (adjustMinutes s).hours = s.hours := rfl
@[simp] theorem adjustMinutes_seconds (s : State) : (adjustMinutes s).seconds = s.seconds := rfl
@[simp] theorem adjustMinutes_deb (s : State) : (adjustMinutes s).deb = s.deb := rfl
@[simp] theorem adjustMinutes_inact (s : State) : (adjustMinutes s).inact = s.inact := rfl
@[simp] theorem adjustMinutes_mpc (s : State) : (adjustMinutes s).mpc = s.mpc := rfl
@[simp] theorem adjustMinutes_port (s : State) : (adjustMinutes s).port = s.port := rfl
@[simp] theorem adjustMinutes_fault (s : State) : (adjustMinutes s).fault = s.fault := rfl
@[simp] theorem adjustMinutes_trace (s : State) : (adjustMinutes s).trace = s.trace := rfl
@[simp] theorem adjustMinutes_stims (s : State) : (adjustMinutes s).stims = s.stims := rfl
@[simp] theorem adjustMinutes_envDraws (s : State) : (adjustMinutes s).envDraws = s.envDraws := rfl

@[simp] theorem checkHours_cfg (l : Level) (s : State) : (checkHours l s).cfg = s.cfg := by unfold checkHours; split <;> rfl
@[simp] theorem checkHours_minutes (l : Level) (s : State) : (checkHours l s).minutes = s.minutes := by unfold checkHours; split <;> rfl
@[simp] theorem checkHours_seconds (l : Level) (s : State) : (checkHours l s).seconds = s.seconds := by unfold checkHours; split <;> rfl
@[simp] theorem checkHours_inact (l : Level) (s : State) : (checkHours l s).inact = s.inact := by unfold checkHours; split <;> rfl
@[simp] theorem checkHours_mpc (l : Level) (s : State) : (checkHours l s).mpc = s.mpc := by unfold checkHours; split <;> rfl
@[simp] theorem checkHours_port (l : Level) (s : State) : (checkHours l s).port = s.port := by unfold checkHours; split <;> rfl
@[simp] theorem checkHours_fault (l : Level) (s : State) : (checkHours l s).fault = s.fault := by unfold checkHours; split <;> rfl
@[simp] theorem checkHours_trace (l : Level) (s : State) : (checkHours l s).trace = s.trace := by unfold checkHours; split <;> rfl
@[simp] theorem checkHours_stims (l : Level) (s : State) : (checkHours l s).stims = s.stims := by unfold checkHours; split <;> rfl
@[simp] theorem checkHours_envDraws (l : Level) (s : State) : (checkHours l s).envDraws = s.envDraws := by unfold checkHours; split <;> rfl

@[simp] theorem checkMinutes_cfg (l : Level) (s : State) : (checkMinutes l s).cfg = s.cfg := by unfold checkMinutes; split <;> rfl
@[simp] theorem checkMinutes_hours (l : Level) (s : State) : (checkMinutes l s).hours = s.hours := by unfold checkMinutes; split <;> rfl
@[simp] theorem checkMinutes_seconds (l : Level) (s : State) : (checkMinutes l s).seconds = s.seconds := by unfold checkMinutes; split <;> rfl
@[simp] theorem checkMinutes_inact (l : Level) (s : State) : (checkMinutes l s).inact = s.inact := by unfold checkMinutes; split <;> rfl
@[simp] theorem checkMinutes_mpc (l : Level) (s : State) : (checkMinutes l s).mpc = s.mpc := by unfold checkMinutes; split <;> rfl
@[simp] theorem checkMinutes_port (l : Level) (s : State) : (checkMinutes l s).port = s.port := by unfold checkMinutes; split <;> rfl
@[simp] theorem checkMinutes_fault (l : Level) (s : State) : (checkMinutes l s).fault = s.fault := by unfold checkMinutes; split <;> rfl
@[simp] theorem checkMinutes_trace (l : Level) (s : State) : (checkMinutes l s).trace = s.trace := by unfold checkMinutes; split <;> rfl
@[simp] theorem checkMinutes_stims (l : Level) (s : State) : (checkMinutes l s).stims = s.stims := by unfold checkMinutes; split <;> rfl
@[simp] theorem checkMinutes_envDraws (l : Level) (s : State) : (checkMinutes l s).envDraws = s.envDraws := by unfold checkMinutes; split <;> rfl

@[simp] theorem checkWake_cfg (l : Level) (s : State) : (checkWake l s).cfg = s.cfg := by unfold checkWake; split <;> rfl
@[simp] theorem checkWake_hours (l : Level) (s : State) : (checkWake l s).hours = s.hours := by unfold checkWake; split <;> rfl
@[simp] theorem checkWake_minutes (l : Level) (s : State) : (checkWake l s).minutes = s.minutes := by unfold checkWake; split <;> rfl
@[simp] theorem checkWake_seconds (l : Level) (s : State) : (checkWake l s).seconds = s.seconds := by unfold checkWake; split <;> rfl
@[simp] theorem checkWake_seq (l : Level) (s : State) : (checkWake l s).seq = s.seq := by unfold checkWake; split <;> rfl
@[simp] theorem checkWake_mpc (l : Level) (s : State) : (checkWake l s).mpc = s.mpc := by unfold checkWake; split <;> rfl
@[simp] theorem checkWake_port (l : Level) (s : State) : (checkWake l s).port = s.port := by unfold checkWake; split <;> rfl
@[simp] theorem checkWake_fault (l : Level) (s : State) : (checkWake l s).fault = s.fault := by unfold checkWake; split <;> rfl
@[simp] theorem checkWake_trace (l : Level) (s : State) : (checkWake l s).trace = s.trace := by unfold checkWake; split <;> rfl
@[simp] theorem checkWake_stims (l : Level) (s : State) : (checkWake l s).stims = s.stims := by unfold checkWake; split <;> rfl
@[simp] theorem checkWake_envDraws (l : Level) (s : State) : (checkWake l s).envDraws = s.envDraws := by unfold checkWake; split <;> rfl

@[simp] theorem checksSeq_cfg (h m w : Level) (s : State) : (checksSeq h m w s).cfg = s.cfg := by simp [checksSeq]
@[simp] theorem checksSeq_seconds (h m w : Level) (s : State) : (checksSeq h m w s).seconds = s.seconds := by simp [checksSeq]
@[simp] theorem checksSeq_mpc (h m w : Level) (s : State) : (checksSeq h m w s).mpc = s.mpc := by simp [checksSeq]
@[simp] theorem checksSeq_port (h m w : Level) (s : State) : (checksSeq h m w s).port = s.port := by simp [checksSeq]
@[simp] theorem checksSeq_fault (h m w : Level) (s : State) : (checksSeq h m w s).fault = s.fault := by simp [checksSeq]
@[simp] theorem checksSeq_trace (h m w : Level) (s : State) : (checksSeq h m w s).trace = s.trace := by simp [checksSeq]
@[simp] theorem checksSeq_stims (h m w : Level) (s : State) : (checksSeq h m w s).stims = s.stims := by simp [checksSeq]
@[simp] theorem checksSeq_envDraws (h m w : Level) (s : State) : (checksSeq h m w s).envDraws = s.envDraws := by simp [checksSeq]

@[simp] theorem checksPar_cfg (h m w : Level) (s : State) : (checksPar h m w s).cfg = s.cfg := by unfold checksPar; cases accepts h s.deb <;> cases accepts m s.deb <;> cases accepts w s.deb <;> rfl
@[simp] theorem checksPar_seconds (h m w : Level) (s : State) : (checksPar h m w s).seconds = s.seconds := by unfold checksPar; cases accepts h s.deb <;> cases accepts m s.deb <;> cases accepts w s.deb <;> rfl
@[simp] theorem checksPar_mpc (h m w : Level) (s : State) : (checksPar h m w s).mpc = s.mpc := by unfold checksPar; cases accepts h s.deb <;> cases accepts m s.deb <;> cases accepts w s.deb <;> rfl
@[simp] theorem checksPar_port (h m w : Level) (s : State) : (checksPar h m w s).port = s.port := by unfold checksPar; cases accepts h s.deb <;> cases accepts m s.deb <;> cases accepts w s.deb <;> rfl
@[simp] theorem checksPar_fault (h m w : Level) (s : State) : (checksPar h m w s).fault = s.fault := by unfold checksPar; cases accepts h s.deb <;> cases accepts m s.deb <;> cases accepts w s.deb <;> rfl
@[simp] theorem checksPar_trace (h m w : Level) (s : State) : (checksPar h m w s).trace = s.trace := by unfold checksPar; cases accepts h s.deb <;> cases accepts m s.deb <;> cases accepts w s.deb <;> rfl
@[simp] theorem checksPar_stims (h m w : Level) (s : State) : (checksPar h m w s).stims = s.stims := by unfold checksPar; cases accepts h s.deb <;> cases accepts m s.deb <;> cases accepts w s.deb <;> rfl
@[simp] theorem checksPar_envDraws (h m w : Level) (s : State) : (checksPar h m w s).envDraws = s.envDraws := by unfold checksPar; cases accepts h s.deb <;> cases accepts m s.deb <;> cases accepts w s.deb <;> rfl

@[simp] theorem edgeBody_cfg (h m w : Level) (s : State) : (edgeBody h m w s).cfg = s.cfg := by unfold edgeBody; split <;> simp
@[simp] theorem edgeBody_seconds (h m w : Level) (s : State) : (edgeBody h m w s).seconds = s.seconds := by unfold edgeBody; split <;> simp
@[simp] theorem edgeBody_mpc (h m w : Level) (s : State) : (edgeBody h m w s).mpc = s.mpc := by unfold edgeBody; split <;> simp
@[simp] theorem edgeBody_port (h m w : Level) (s : State) : (edgeBody h m w s).port = s.port := by unfold edgeBody; split <;> simp
@[simp] theorem edgeBody_fault (h m w : Level) (s : State) : (edgeBody h m w s).fault = s.fault := by unfold edgeBody; split <;> simp
@[simp] theorem edgeBody_trace (h m w : Level) (s : State) : (edgeBody h m w s).trace = s.trace := by unfold edgeBody; split <;> simp
@[simp] theorem edgeBody_stims (h m w : Level) (s : State) : (edgeBody h m w s).stims = s.stims := by unfold edgeBody; split <;> simp
@[simp] theorem edgeBody_envDraws (h m w : Level) (s : State) : (edgeBody h m w s).envDraws = s.envDraws := by unfold edgeBody; split <;> simp

@[simp] theorem sleepNow_cfg (s : State) : (sleepNow s).cfg = s.cfg := rfl
@[simp] theorem sleepNow_hours (s : State) : (sleepNow s).hours = s.hours := rfl
@[simp] theorem sleepNow_minutes (s : State) : (sleepNow s).minutes = s.minutes := rfl
@[simp] theorem sleepNow_seconds (s : State) : (sleepNow s).seconds = s.seconds := rfl
@[simp] theorem sleepNow_inact (s : State) : (sleepNow s).inact = s.inact := rfl
@[simp] theorem sleepNow_seq (s : State) : (sleepNow s).seq = s.seq := rfl
@[simp] theorem sleepNow_fault (s : State) : (sleepNow s).fault = s.fault := rfl
@[simp] theorem sleepNow_stims (s : State) : (sleepNow s).stims = s.stims := rfl
@[simp] theorem sleepNow_envDraws (s : State) : (sleepNow s).envDraws = s.envDraws := rfl

@[simp] theorem gateStep_cfg (s : State) : (gateStep s).cfg = s.cfg := by unfold gateStep; split <;> rfl
@[simp] theorem gateStep_hours (s : State) : (gateStep s).hours = s.hours := by unfold gateStep; split <;> rfl
@[simp] theorem gateStep_minutes (s : State) : (gateStep s).minutes = s.minutes := by unfold gateStep; split <;> rfl
@[simp] theorem gateStep_seconds (s : State) : (gateStep s).seconds = s.seconds := by unfold gateStep; split <;> rfl
@[simp] theorem gateStep_inact (s : State) : (gateStep s).inact = s.inact := by unfold gateStep; split <;> rfl
@[simp] theorem gateStep_seq (s : State) : (gateStep s).seq = s.seq := by unfold gateStep; split <;> rfl
@[simp] theorem gateStep_fault (s : State) : (gateStep s).fault = s.fault := by unfold gateStep; split <;> rfl
@[simp] theorem gateStep_stims (s : State) : (gateStep s).stims = s.stims := by unfold gateStep; split <;> rfl
@[simp] theorem gateStep_envDraws (s : State) : (gateStep s).envDraws = s.envDraws := by unfold gateStep; split <;> rfl

@[simp] theorem emitSlot_cfg (i : Fin 12) (s : State) : (emitSlot i s).cfg = s.cfg := rfl
@[simp] theorem emitSlot_hours (i : Fin 12) (s : State) : (emitSlot i s).hours = s.hours := rfl
@[simp] theorem emitSlot_minutes (i : Fin 12) (s : State) : (emitSlot i s).minutes = s.minutes := rfl
@[simp] theorem emitSlot_seconds (i : Fin 12) (s : State) : (emitSlot i s).seconds = s.seconds := rfl
@[simp] theorem emitSlot_deb (i : Fin 12) (s : State) : (emitSlot i s).deb = s.deb := rfl
@[simp] theorem emitSlot_inact (i : Fin 12) (s : State) : (emitSlot i s).inact = s.inact := rfl
@[simp] theorem emitSlot_seq (i : Fin 12) (s : State) : (emitSlot i s).seq = s.seq := rfl
@[simp] theorem emitSlot_fault (i : Fin 12) (s : State) : (emitSlot i s).fault = s.fault := rfl
@[simp] theorem emitSlot_stims (i : Fin 12) (s : State) : (emitSlot i s).stims = s.stims := rfl
@[simp] theorem emitSlot_envDraws (i : Fin 12) (s : State) : (emitSlot i s).envDraws = s.envDraws := rfl

@[simp] theorem endPass_cfg (s : State) : (endPass s).cfg = s.cfg := rfl
@[simp] theorem endPass_hours (s : State) : (endPass s).hours = s.hours := rfl
@[simp] theorem endPass_minutes (s : State) : (endPass s).minutes = s.minutes := rfl
@[simp] theorem endPass_seconds (s : State) : (endPass s).seconds = s.seconds := rfl
@[simp] theorem endPass_inact (s : State) : (endPass s).inact = s.inact := rfl
@[simp] theorem endPass_seq (s : State) : (endPass s).seq = s.seq := rfl
@[simp] theorem endPass_port (s : State) : (endPass s).port = s.port := rfl
@[simp] theorem endPass_fault (s : State) : (endPass s).fault = s.fault := rfl
@[simp] theorem endPass_trace (s : State) : (endPass s).trace = s.trace := rfl
@[simp] theorem endPass_stims (s : State) : (endPass s).stims = s.stims := rfl
@[simp] theorem endPass_envDraws (s : State) : (endPass s).envDraws = s.envDraws := rfl

@[simp] theorem walkStep_cfg (i : Fin 12) (s : State) : (walkStep i s).cfg = s.cfg := by unfold walkStep; split <;> [split <;> rfl; rfl]
@[simp] theorem walkStep_hours (i : Fin 12) (s : State) : (walkStep i s).hours = s.hours := by unfold walkStep; split <;> [split <;> rfl; rfl]
@[simp] theorem walkStep_minutes (i : Fin 12) (s : State) : (walkStep i s).minutes = s.minutes := by unfold walkStep; split <;> [split <;> rfl; rfl]
@[simp] theorem walkStep_seconds (i : Fin 12) (s : State) : (walkStep i s).seconds = s.seconds := by unfold walkStep; split <;> [split <;> rfl; rfl]
@[simp] theorem walkStep_inact (i : Fin 12) (s : State) : (walkStep i s).inact = s.inact := by unfold walkStep; split <;> [split <;> rfl; rfl]
@[simp] theorem walkStep_seq (i : Fin 12) (s : State) : (walkStep i s).seq = s.seq := by unfold walkStep; split <;> [split <;> rfl; rfl]
@[simp] theorem walkStep_stims (i : Fin 12) (s : State) : (walkStep i s).stims = s.stims := by unfold walkStep; split <;> [split <;> rfl; rfl]
@[simp] theorem walkStep_envDraws (i : Fin 12) (s : State) : (walkStep i s).envDraws = s.envDraws := by unfold walkStep; split <;> [split <;> rfl; rfl]

@[simp] theorem mainStep_cfg (s : State) : (mainStep s).cfg = s.cfg := by unfold mainStep; split <;> simp
@[simp] theorem mainStep_hours (s : State) : (mainStep s).hours = s.hours := by unfold mainStep; split <;> simp
@[simp] theorem mainStep_minutes (s : State) : (mainStep s).minutes = s.minutes := by unfold mainStep; split <;> simp
@[simp] theorem mainStep_seconds (s : State) : (mainStep s).seconds = s.seconds := by unfold mainStep; split <;> simp
@[simp] theorem mainStep_inact (s : State) : (mainStep s).inact = s.inact := by unfold mainStep; split <;> simp
@[simp] theorem mainStep_seq (s : State) : (mainStep s).seq = s.seq := by unfold mainStep; split <;> simp
@[simp] theorem mainStep_stims (s : State) : (mainStep s).stims = s.stims := by unfold mainStep; split <;> simp
@[simp] theorem mainStep_envDraws (s : State) : (mainStep s).envDraws = s.envDraws := by unfold mainStep; split <;> simp

end Sys2Proof.Machine
end

