-- ==== Sys2Proof/Laws/Exec.lean ====
section
/-! SUPPORT. What serving an operation can do, said once: `exec` always answers a next state, and that state is one of the effects
below. -/

namespace Sys2Proof.Machine

/-- Every effect an operation can have on the state. -/
inductive Effect : Instr → State → State → Prop where
  /-- Nothing changes: a fault is set, or the sub-operation is not selected here. -/
  | idle (i : Instr) (s : State) : Effect i s s
  | reset (s : State) : Effect .reset s s.powerOn
  | tick (s : State) (h : s.fault = none) : Effect .tick s (tickBody s).wake
  | edge (ph pm pw : Level) (s : State) (h : s.fault = none) : Effect (.edge ph pm pw) s (edgeBody ph pm pw s).wake
  | step (s : State) (h : s.fault = none) : Effect .step s (mainStep s)
  | encode (s : State) (h : s.fault = none) : Effect .encode s s.refresh
  | adjH (s : State) (h : s.fault = none) : Effect .adjH s (adjustHours s)
  | adjM (s : State) (h : s.fault = none) : Effect .adjM s (adjustMinutes s)
  | chkH (l : Level) (s : State) (h : s.fault = none) : Effect (.chkH l) s (checkHours l s)
  | chkM (l : Level) (s : State) (h : s.fault = none) : Effect (.chkM l) s (checkMinutes l s)
  | chkW (l : Level) (s : State) (h : s.fault = none) : Effect (.chkW l) s (checkWake l s)
  | gate (s : State) (h : s.fault = none) (hp : s.mpc = .gate) : Effect .gate s (gateStep s)
  | sleepEntry (s : State) (h : s.fault = none) (hp : s.mpc = .gate) (hd : sleepDue s.inact = true) :
      Effect .sleepEntry s (sleepNow s)
  | wakeup (s : State) (h : s.fault = none) : Effect .wakeup s s.wake
  | walk (i : Fin 12) (s : State) (h : s.fault = none) (hp : s.mpc = .walk i) (hi : i.val < nSlots)
      (hv : readSlot s.seq i.val ≠ sentinel) : Effect .walk s (emitSlot i s)
  | passEnd (i : Fin 12) (s : State) (h : s.fault = none) (hp : s.mpc = .walk i) (hi : i.val < nSlots)
      (hv : readSlot s.seq i.val = sentinel) : Effect .passEnd s (endPass s)
  | walkOverrun (s : State) (h : s.fault = none) (hp : s.mpc = .walk 11) : Effect .walkOverrun s (s.raise .walkOverrun)

/-- A guarded body has its effect, or nothing changes. -/
theorem effect_unlessFaulted (i : Instr) (op : State → State) (s : State) (h : s.fault = none → Effect i s (op s)) :
    Effect i s (unlessFaulted op s) := by
  rcases unlessFaulted_cases op s with ⟨hf, e⟩ | ⟨_, e⟩
  · rw [e]; exact h hf
  · rw [e]; exact .idle i s

/-- A selected sub-operation has its effect, or nothing changes. -/
theorem effect_whenSelected (i : Instr) (b : Bool) (op : State → State) (s : State)
    (h : b = true → s.fault = none → Effect i s (op s)) : Effect i s (whenSelected b op s) := by
  rcases whenSelected_cases b op s with ⟨hb, hf, e⟩ | e
  · rw [e]; exact h hb hf
  · rw [e]; exact .idle i s

/-- Every operation, in every state, answers a next state with one of its effects. -/
theorem exec_effect (i : Instr) (s : State) : ∃ t, exec i s = .next t ∧ Effect i s t := by
  cases i with
  | step => exact ⟨_, rfl, effect_unlessFaulted _ _ _ (.step s)⟩
  | tick => exact ⟨_, rfl, effect_unlessFaulted _ _ _ (.tick s)⟩
  | edge ph pm pw => exact ⟨_, rfl, effect_unlessFaulted _ _ _ (.edge ph pm pw s)⟩
  | reset => exact ⟨_, rfl, .reset s⟩
  | encode => exact ⟨_, rfl, effect_unlessFaulted _ _ _ (.encode s)⟩
  | adjH => exact ⟨_, rfl, effect_unlessFaulted _ _ _ (.adjH s)⟩
  | adjM => exact ⟨_, rfl, effect_unlessFaulted _ _ _ (.adjM s)⟩
  | chkH l => exact ⟨_, rfl, effect_unlessFaulted _ _ _ (.chkH l s)⟩
  | chkM l => exact ⟨_, rfl, effect_unlessFaulted _ _ _ (.chkM l s)⟩
  | chkW l => exact ⟨_, rfl, effect_unlessFaulted _ _ _ (.chkW l s)⟩
  | gate => exact ⟨_, rfl, effect_whenSelected _ _ _ _ fun hb hf => .gate s hf (by simpa using hb)⟩
  | sleepEntry =>
    exact ⟨_, rfl, effect_whenSelected _ _ _ _ fun hb hf => by
      rw [Bool.and_eq_true, beq_iff_eq] at hb
      exact .sleepEntry s hf hb.1 hb.2⟩
  | wakeup => exact ⟨_, rfl, effect_unlessFaulted _ _ _ (.wakeup s)⟩
  | walk =>
    simp only [exec, execWalk]
    split
    · rename_i j hp
      refine ⟨_, rfl, effect_whenSelected _ _ _ _ fun hb hf => ?_⟩
      rw [Bool.and_eq_true, decide_eq_true_eq, bne_iff_ne] at hb
      exact .walk j s hf hp hb.1 hb.2
    · exact ⟨s, rfl, .idle _ s⟩
    · exact ⟨s, rfl, .idle _ s⟩
  | passEnd =>
    simp only [exec, execPassEnd]
    split
    · rename_i j hp
      refine ⟨_, rfl, effect_whenSelected _ _ _ _ fun hb hf => ?_⟩
      rw [Bool.and_eq_true, decide_eq_true_eq, beq_iff_eq] at hb
      exact .passEnd j s hf hp hb.1 hb.2
    · exact ⟨s, rfl, .idle _ s⟩
    · exact ⟨s, rfl, .idle _ s⟩
  | walkOverrun => exact ⟨_, rfl, effect_whenSelected _ _ _ _ fun hb hf => .walkOverrun s hf (by simpa using hb)⟩

/-- What a next state of `exec` can be. -/
theorem exec_cases {i : Instr} {s t : State} (h : exec i s = .next t) : Effect i s t := by
  obtain ⟨u, hu, he⟩ := exec_effect i s
  rw [h] at hu
  cases hu
  exact he

end Sys2Proof.Machine
end

