-- ==== Sys2Proof/Laws/Closed.lean ====
section
/-! SUPPORT. The phases of `TICK`, the three checks and the two outcomes of the gate as single record updates, so that the result of
an operation is read off without splitting its branches; and the bounds a well-formed configuration gives. -/

namespace Sys2Proof.Machine

/-! ## The phases of `TICK` -/

theorem rollSeconds_eq (s : State) :
    rollSeconds s =
      { s with
        seconds := if roll s.cfg.rollCmp s.seconds secMod then 0 else s.seconds
        minutes := if roll s.cfg.rollCmp s.seconds secMod then incW s.cfg.wMin s.minutes else s.minutes
        seq := if roll s.cfg.rollCmp s.seconds secMod then
            cellsFrom 0 (encodeSlots s.cfg s.hours (incW s.cfg.wMin s.minutes)) else s.seq } := by
  unfold rollSeconds
  split <;> rfl

theorem rollMinutes_eq (s : State) :
    rollMinutes s =
      { s with
        minutes := if roll s.cfg.rollCmp s.minutes minMod then 0 else s.minutes
        hours := if roll s.cfg.rollCmp s.minutes minMod then incW s.cfg.wHours s.hours else s.hours } := by
  unfold rollMinutes
  split <;> rfl

theorem rollHours_eq (s : State) :
    rollHours s = { s with hours := if roll s.cfg.rollCmp s.hours hourMod then 0 else s.hours } := by
  unfold rollHours
  split <;> rfl

/-! ## The checks -/

theorem checkHours_eq (l : Level) (s : State) :
    checkHours l s =
      { s with
        hours := if accepts l s.deb then incW s.cfg.wHours s.hours else s.hours
        seq := if accepts l s.deb then
            cellsFrom 0 (encodeSlots s.cfg (incW s.cfg.wHours s.hours) s.minutes) else s.seq
        deb := if accepts l s.deb then 0 else s.deb } := by
  unfold checkHours
  split <;> rfl

theorem checkMinutes_eq (l : Level) (s : State) :
    checkMinutes l s =
      { s with
        minutes := if accepts l s.deb then incW s.cfg.wMin s.minutes else s.minutes
        seq := if accepts l s.deb then
            cellsFrom 0 (encodeSlots s.cfg s.hours (incW s.cfg.wMin s.minutes)) else s.seq
        deb := if accepts l s.deb then 0 else s.deb } := by
  unfold checkMinutes
  split <;> rfl

theorem checkWake_eq (l : Level) (s : State) :
    checkWake l s =
      { s with
        inact := if accepts l s.deb then 0 else s.inact
        deb := if accepts l s.deb then 0 else s.deb } := by
  unfold checkWake
  split <;> rfl

theorem checksPar_eq (h m w : Level) (s : State) :
    checksPar h m w s =
      { s with
        hours := if accepts h s.deb then incW s.cfg.wHours s.hours else s.hours
        minutes := if accepts m s.deb then incW s.cfg.wMin s.minutes else s.minutes
        seq := if accepts h s.deb || accepts m s.deb then
            cellsFrom 0 (encodeSlots s.cfg (if accepts h s.deb then incW s.cfg.wHours s.hours else s.hours)
              (if accepts m s.deb then incW s.cfg.wMin s.minutes else s.minutes)) else s.seq
        inact := if accepts w s.deb then 0 else s.inact
        deb := if accepts h s.deb || accepts m s.deb || accepts w s.deb then 0 else s.deb } := by
  unfold checksPar
  cases accepts h s.deb <;> cases accepts m s.deb <;> cases accepts w s.deb <;> rfl

/-! ## Bounds -/

/-- The powers of two a well-formed configuration gives. -/
theorem widthsOk_pow {c : Config} (h : c.widthsOk = true) :
    32 ≤ 2 ^ c.wHours ∧ 64 ≤ 2 ^ c.wMin ∧ 64 ≤ 2 ^ c.wSec ∧ 16 ≤ 2 ^ c.wDeb ∧ 32 ≤ 2 ^ c.wInact := by
  simp only [Config.widthsOk, Bool.and_eq_true, decide_eq_true_eq] at h
  have p : ∀ {a b : Nat}, a ≤ b → 2 ^ a ≤ 2 ^ b := fun hab => Nat.pow_le_pow_right (by decide) hab
  exact ⟨p (a := 5) h.1.1.1.1, p (a := 6) h.1.1.1.2, p (a := 6) h.1.1.2, p (a := 4) h.1.2, p (a := 5) h.2⟩

/-- A step that finds a stimulus lined up serves it. -/
theorem step_of_stims {s : State} {w : StimWord} {rest : List StimWord} (h : s.cfg.widthsOk = true) (e : s.stims = w :: rest) :
    step s = exec (decodeWord w) { s with stims := rest } := by
  simp [step, h, nextWord, takeWord, e]

/-! ## Runs -/

theorem runSteps_zero (s : State) : runSteps 0 s = .next s := rfl

/-- A run whose first step answers a next state goes on from there. -/
theorem runSteps_succ {s t : State} (h : step s = .next t) (n : Nat) : runSteps (n + 1) s = runSteps n t := by
  rw [runSteps, h]

/-- A run in two parts. -/
theorem runSteps_add {s t : State} {a : Nat} (h : runSteps a s = .next t) (b : Nat) : runSteps (a + b) s = runSteps b t := by
  induction a generalizing s with
  | zero => cases h; rw [Nat.zero_add]
  | succ a ih =>
    rw [show a + 1 + b = a + b + 1 by omega]
    rw [runSteps] at h ⊢
    split at h
    · exact ih h
    · cases h
    · cases h

end Sys2Proof.Machine
end

