-- ==== Sys2Proof/Laws/PerInstr.lean ====
section
/-! SUPPORT. The per-operation family `WordOwner`: an operation has a word exactly when it is a well-formed stimulus, and that word
decodes to it. -/

namespace Sys2Proof.Laws.WordOwner

def Statement (i : Instr) : Prop :=
  (encode i).isSome = i.wf ∧ ∀ w, encode i = some w → decodeWord w = i

theorem step : Statement .step := ⟨rfl, fun w h => by cases h; rfl⟩
theorem tick : Statement .tick := ⟨rfl, fun w h => by cases h; rfl⟩
theorem edge (ph pm pw : Level) : Statement (.edge ph pm pw) :=
  ⟨rfl, fun w h => by cases h; cases ph <;> cases pm <;> cases pw <;> rfl⟩
theorem reset : Statement .reset := ⟨rfl, fun w h => by cases h; rfl⟩
theorem encode : Statement .encode := ⟨rfl, fun w h => by cases h⟩
theorem adjH : Statement .adjH := ⟨rfl, fun w h => by cases h⟩
theorem adjM : Statement .adjM := ⟨rfl, fun w h => by cases h⟩
theorem chkH (ph : Level) : Statement (.chkH ph) := ⟨rfl, fun w h => by cases h⟩
theorem chkM (pm : Level) : Statement (.chkM pm) := ⟨rfl, fun w h => by cases h⟩
theorem chkW (pw : Level) : Statement (.chkW pw) := ⟨rfl, fun w h => by cases h⟩
theorem gate : Statement .gate := ⟨rfl, fun w h => by cases h⟩
theorem sleepEntry : Statement .sleepEntry := ⟨rfl, fun w h => by cases h⟩
theorem wakeup : Statement .wakeup := ⟨rfl, fun w h => by cases h⟩
theorem walk : Statement .walk := ⟨rfl, fun w h => by cases h⟩
theorem passEnd : Statement .passEnd := ⟨rfl, fun w h => by cases h⟩
theorem walkOverrun : Statement .walkOverrun := ⟨rfl, fun w h => by cases h⟩

end Sys2Proof.Laws.WordOwner
end

