-- ==== Sys2Proof/Tests/Slice0.lean ====
section
/-! SUPPORT. The model's own tests: the well-formedness checks on ill-formed terms, the words of the stimuli written out from
spec/30_encoding.md, vectors of spec/95_test_vectors.md (named in each test), and, for every statement of
Sys2Proof/Certificates/Slice0/Obligations.lean that has hypotheses, a concrete state and operands that meet them together. -/

open Sys2Proof Sys2Proof.Machine

namespace Sys2Proof.Tests

/-! ## Fixtures (spec/95_test_vectors.md section 2) -/

/-- The raw rows of fixture A. -/
def rowsA : List (TimeWord × Byte) :=
  [(0x000#11, 0x01#8), (0x200#11, 0xA1#8), (0x100#11, 0xA2#8), (0x080#11, 0xA3#8), (0x040#11, 0xA4#8), (0x020#11, 0xA5#8),
   (0x010#11, 0xA6#8), (0x008#11, 0xA7#8), (0x004#11, 0xA8#8), (0x002#11, 0xA9#8), (0x001#11, 0xAA#8)]

/-- Fixture A as a table. -/
def tableA : EncTable :=
  #v[⟨none, 0x01#8⟩, ⟨some 9, 0xA1#8⟩, ⟨some 8, 0xA2#8⟩, ⟨some 7, 0xA3#8⟩, ⟨some 6, 0xA4#8⟩, ⟨some 5, 0xA5#8⟩,
     ⟨some 4, 0xA6#8⟩, ⟨some 3, 0xA7#8⟩, ⟨some 2, 0xA8#8⟩, ⟨some 1, 0xA9#8⟩, ⟨some 0, 0xAA#8⟩]

/-- Fixture B (breaks T5, for the overrun only). -/
def tableB : EncTable :=
  #v[⟨some 0, 0xB0#8⟩, ⟨some 1, 0xB1#8⟩, ⟨some 2, 0xB2#8⟩, ⟨some 3, 0xB3#8⟩, ⟨some 4, 0xB4#8⟩, ⟨some 5, 0xB5#8⟩,
     ⟨some 6, 0xB6#8⟩, ⟨some 7, 0xB7#8⟩, ⟨some 8, 0xB8#8⟩, ⟨some 9, 0xB9#8⟩, ⟨some 10, 0xBA#8⟩]

/-- Fixture A with widths 8, idle pattern 0x01 and a `PORT_RESET` that no pattern equals. -/
def cfgA (cmp : RollCmp) (ev : EdgeEval) : Config := ⟨tableA, 0x01#8, 8, 8, 8, 8, 8, cmp, ev, 0x3C#8⟩

/-- A state showing its own time on fixture A. -/
def stA (cmp : RollCmp) (ev : EdgeEval) (h m sec deb inact : Nat) (mpc : Mpc) : State where
  cfg := cfgA cmp ev
  hours := h
  minutes := m
  seconds := sec
  deb := deb
  inact := inact
  seq := cellsFrom 0 (encodeSlots (cfgA cmp ev) h m)
  mpc := mpc
  port := 0x00#8
  fault := none
  trace := []
  stims := []
  envDraws := 0

/-- The usual test state: `GE`, `SEQ`. -/
def st (h m sec deb inact : Nat) (mpc : Mpc) : State := stA .ge .seq h m sec deb inact mpc

/-- One reading of the next state. -/
def read {α : Type} (o : Host.Outcome State Fault Refusal) (f : State → α) : Option α :=
  match o with
  | .next t => some (f t)
  | .fault _ => none
  | .refused _ => none

/-- The eleven slots. -/
def slots (s : State) : List Byte := (List.range 11).map (readSlot s.seq)

/-- A sequence padded to eleven slots. -/
def pad (l : List Byte) : List Byte := l ++ List.replicate (11 - l.length) 0#8

/-! ## Well-formedness: an ill-formed term for each check -/

theorem test_wf_hours_width : Config.widthsOk { cfgA .eq .seq with wHours := 4 } = false := by decide
theorem test_wf_minutes_width : Config.widthsOk { cfgA .eq .seq with wMin := 5 } = false := by decide
theorem test_wf_seconds_width : Config.widthsOk { cfgA .eq .seq with wSec := 5 } = false := by decide
theorem test_wf_deb_width : Config.widthsOk { cfgA .eq .seq with wDeb := 3 } = false := by decide
theorem test_wf_inact_width : Config.widthsOk { cfgA .eq .seq with wInact := 4 } = false := by decide
theorem test_wf_least_widths :
    Config.widthsOk { cfgA .eq .seq with wHours := 5, wMin := 6, wSec := 6, wDeb := 4, wInact := 5 } = true := by decide
theorem test_wf_two_bit_mask : selectorOfMask 0x003#11 = none := by decide
theorem test_wf_one_bit_mask : selectorOfMask 0x200#11 = some (some 9) := by decide
theorem test_wf_table_rows : tableOfMasks rowsA = some tableA := by decide
theorem test_wf_table_of_ten_rows : tableOfMasks (rowsA.drop 1) = none := by decide
theorem test_wf_table_with_two_bit_mask : tableOfMasks ((0x600#11, 0x01#8) :: rowsA.drop 1) = none := by decide
theorem test_wf_zero_pattern : ¬ TableNonzero { cfgA .eq .seq with encTable := tableA.set 1 ⟨some 9, 0x00#8⟩ } := by decide
theorem test_wf_position_zero : ¬ TablePos0Inert { cfgA .eq .seq with encTable := tableB } := by decide
theorem test_wf_sub_operations :
    [Instr.encode, .adjH, .adjM, .chkH .low, .chkM .low, .chkW .low, .gate, .sleepEntry, .wakeup, .walk, .passEnd,
      .walkOverrun].all (fun i => !i.wf) = true := by decide

/-! ## Decoding: words written out from R76 and R77 (`kind[4:3] pw pm ph`), and the rows of the opcode table -/

theorem test_decode_step : decodeWord 0b00000#5 = .step ∧ decodeWord 0b00111#5 = .step := by decide
theorem test_decode_tick : decodeWord 0b01000#5 = .tick ∧ decodeWord 0b01111#5 = .tick := by decide
theorem test_decode_edge :
    decodeWord 0b10110#5 = .edge .low .high .high ∧ decodeWord 0b10101#5 = .edge .high .low .high ∧
    decodeWord 0b10011#5 = .edge .high .high .low := by decide
theorem test_decode_reset : decodeWord 0b11000#5 = .reset ∧ decodeWord 0b11111#5 = .reset := by decide
theorem test_decode_rows_under_edge : decodeTableWord 8 0x10 = some (.edge .low .low .low) := by decide
theorem test_decode_rows_under_step : decodeTableWord 8 0x00 = some .step := by decide
theorem test_decode_row_of_tick : decodeTableWord 8 0x08 = some .tick := by decide
theorem test_decode_row_of_reset : decodeTableWord 8 0x18 = some .reset := by decide
theorem test_decode_six_bits_refused : decode [0x27#8] = .error (.notFiveBits 0x27#8) := by decide
theorem test_decode_no_word_refused : decode [] = .error .noWord := by decide
theorem test_script_text_order : scriptText (decodeWord 0x16#5) = some "EDGE 0 1 1" := by decide
theorem test_pseudo_stimuli :
    (pressH ++ pressM ++ pressW ++ release).map decodeWord =
      [.edge .low .high .high, .edge .high .low .high, .edge .high .high .low, .edge .high .high .high] := by decide

/-! ## One step on small states, from the vectors -/

/-- Served as the first stimulus after reset: `GATE` opens (vector Z4). -/
theorem test_step_from_reset : step (State.reset.withFetchWord 8 0x07) = .next { State.reset with mpc := .walk 0 } := rfl

theorem test_encode_E7 : encodeSlots (cfgA .eq .seq) 23 59 =
    pad [0xA2#8, 0xA3#8, 0xA4#8, 0xA5#8, 0xA6#8, 0xA7#8, 0xA9#8, 0xAA#8] := by decide
theorem test_encode_E21 : encodeSlots (cfgA .eq .seq) 255 255 =
    pad [0xA1#8, 0xA2#8, 0xA5#8, 0xA6#8, 0xA7#8, 0xA8#8, 0xA9#8, 0xAA#8] := by decide
/-- Vector T4: the display of (23, 60). -/
theorem test_tick_T4 :
    read (exec .tick (st 23 59 59 3 7 .gate)) (fun t => (t.hours, t.minutes, t.seconds, t.inact, slots t)) =
      some (0, 0, 0, 8, pad [0xA2#8, 0xA3#8, 0xA4#8, 0xA5#8, 0xA6#8, 0xA7#8, 0xA8#8]) := by decide
/-- Vector T13: three levels under `GE`, stale hours under `EQ`. -/
theorem test_tick_T13 :
    read (exec .tick (stA .eq .seq 24 60 59 3 7 .gate)) (fun t => (t.hours, t.minutes, t.seconds)) = some (0, 61, 0) ∧
    read (exec .tick (st 24 60 59 3 7 .gate)) (fun t => (t.hours, t.minutes, t.seconds)) = some (0, 0, 0) := by decide
/-- Vector A7: the 8-bit wrap. -/
theorem test_adjH_A7 : read (exec .adjH (st 255 0 0 0 0 .gate)) (fun t => (t.hours, slots t)) = some (0, pad []) := by decide
/-- Vector A5: no carry. -/
theorem test_adjM_A5 :
    read (exec .adjM (st 7 59 0 0 0 .gate)) (fun t => (t.hours, t.minutes, slots t)) =
      some (7, 60, pad [0xA2#8, 0xA3#8, 0xA4#8, 0xA5#8, 0xA6#8, 0xA7#8, 0xA8#8]) := by decide
/-- Vector G8 under `SEQ`. -/
theorem test_edge_G8_seq :
    read (exec (.edge .low .low .low) (stA .ge .seq 5 7 0 10 9 .gate)) (fun t => (t.hours, t.minutes, t.inact, t.deb)) =
      some (6, 7, 9, 0) := by decide
/-- Vector G8 under `PAR`. -/
theorem test_edge_G8_par :
    read (exec (.edge .low .low .low) (stA .ge .par 5 7 0 10 9 .gate)) (fun t => (t.hours, t.minutes, t.inact, t.deb, slots t)) =
      some (6, 8, 0, 0, pad [0xA2#8, 0xA3#8, 0xA7#8]) := by decide
/-- Vectors G1 and G9. -/
theorem test_chkH : read (exec (.chkH .low) (st 5 7 0 10 9 .gate)) (fun t => (t.hours, t.deb, t.inact)) = some (6, 0, 9) ∧
    read (exec (.chkH .low) (st 5 7 0 9 9 .gate)) (fun t => (t.hours, t.deb)) = some (5, 9) := by decide
/-- Vectors G2 and G9. -/
theorem test_chkM : read (exec (.chkM .low) (st 5 7 0 10 9 .gate)) (fun t => (t.minutes, t.deb, t.inact)) = some (8, 0, 9) ∧
    read (exec (.chkM .high) (st 5 7 0 10 9 .gate)) (fun t => (t.minutes, t.deb)) = some (7, 10) := by decide
/-- Vectors G3 and G9. -/
theorem test_chkW : read (exec (.chkW .low) (st 5 7 0 10 9 .gate)) (fun t => (t.inact, t.deb, t.hours)) = some (0, 0, 5) ∧
    read (exec (.chkW .low) (st 5 7 0 9 9 .gate)) (fun t => (t.inact, t.deb)) = some (9, 9) := by decide
/-- Vector S1. -/
theorem test_gate_S1 : read (exec .gate (st 5 7 0 3 24 .gate)) (fun t => (t.mpc, t.deb, t.trace)) = some (.walk 0, 3, []) := by decide
/-- Vector S4: `deb` forced down to 10. -/
theorem test_sleepEntry_S4 :
    read (exec .sleepEntry (st 5 7 0 200 255 .gate)) (fun t => (t.mpc, t.deb, t.port, t.trace)) =
      some (.susp, 10, 0x01#8, [0x01#8]) := by decide
/-- Vector S9. -/
theorem test_wakeup : read (exec .wakeup (st 5 7 0 10 25 .susp)) (fun t => (t.mpc, t.deb)) = some (.gate, 10) := by decide
/-- Vector W6 at its last emit: from slot 9 the walk goes to slot 10. -/
theorem test_walk :
    read (exec .walk (st 31 63 0 0 0 (.walk 9))) (fun t => (t.port, t.trace, t.mpc)) = some (0xAA#8, [0xAA#8], .walk 10) := by decide
/-- Vector W4: the 8-bit wrap of `deb`. -/
theorem test_passEnd : read (exec .passEnd (st 0 1 0 255 0 (.walk 1))) (fun t => (t.deb, t.mpc)) = some (0, .gate) := by decide
/-- Vector W7: the thirteenth `STEP` sets the fault and nothing else. -/
theorem test_walkOverrun :
    read (exec .walkOverrun (st 31 63 0 0 0 (.walk 11))) (fun t => (t.fault, t.mpc, t.deb)) =
      some (some .walkOverrun, .walk 11, 0) := by decide
/-- Vector Z2: `RESET` leaves the fault. -/
theorem test_reset :
    read (exec .reset { st 31 63 9 9 9 (.walk 11) with fault := some .walkOverrun, trace := [0xBA#8] })
      (fun t => (t.fault, t.mpc, t.hours, t.trace, slots t)) = some (none, .gate, 0, [], pad []) := by decide
/-- R240: the latch takes `PORT_RESET`, which is no write of the trace. -/
theorem test_reset_port :
    read (exec .reset (st 31 63 9 9 9 .susp)) (fun t => (t.port, t.trace)) = some (0x3C#8, []) := by decide
/-- Vector S6: `STEP` at `SUSP`. -/
theorem test_step_S6 : read (exec .step (st 5 7 0 10 25 .susp)) (fun t => (t.mpc, t.inact, t.trace)) = some (.susp, 25, []) := by decide

/-! ## Witnesses: hypotheses of the statements met together -/

theorem witness_ScriptsOfStimuliDecodeBack : ∀ i ∈ [Instr.step, .tick, .edge .low .high .low, .reset], i.wf = true := by decide
theorem witness_BytesAboveFiveBitsAreRefused : 32 ≤ (0x20#8).toNat ∧ 32 ≤ (0xFF#8).toNat := by decide
/-- A state with one `TICK` lined up before a `STEP`. -/
def lined : State := { st 12 34 59 3 3 .gate with stims := [0x0F#5, 0x07#5] }
theorem witness_StepServesTheStimulusLinedUp :
    lined.cfg.widthsOk = true ∧ lined.stims = 0x0F#5 :: [0x07#5] ∧ decodeWord 0x0F#5 = .tick := by decide
theorem witness_StepServesTheEnvironmentsFreeChoice :
    (st 12 34 59 3 3 .gate).cfg.widthsOk = true ∧ (st 12 34 59 3 3 .gate).stims = [] := by decide
theorem witness_NarrowWidthsAreRefused :
    ({ cfgA .eq .seq with wHours := 4 }).wHours < 5 ∧ ({ cfgA .eq .seq with wMin := 5 }).wMin < 6 ∧
    ({ cfgA .eq .seq with wSec := 5 }).wSec < 6 ∧ ({ cfgA .eq .seq with wDeb := 3 }).wDeb < 4 ∧
    ({ cfgA .eq .seq with wInact := 4 }).wInact < 5 := by decide
theorem witness_EveryOperationAndStepCompletes :
    let c := { cfgA .eq .seq with wHours := 5, wMin := 6, wSec := 6, wDeb := 4, wInact := 5 }
    5 ≤ c.wHours ∧ 6 ≤ c.wMin ∧ 6 ≤ c.wSec ∧ 4 ≤ c.wDeb ∧ 5 ≤ c.wInact := by decide
theorem witness_ConfigurationIsNeverWritten :
    exec .reset lined = .next lined.powerOn ∧ ∃ t, step lined = .next t := ⟨rfl, _, rfl⟩
theorem witness_EncodeRefreshesTheWholeBuffer : (st 12 34 0 0 0 .gate).fault = none ∧ 10 < 11 ∧ 11 ≤ 11 := by decide
theorem witness_ZeroTimeWordGivesTheEmptySequence : timeWord 1 64 = 0#11 := by decide
theorem witness_TimeWordLayoutInRange : (31 < 32 ∧ 63 < 64) ∧ (0 < 32 ∧ 0 < 64) := by decide
theorem witness_SequenceIsPackedUnderNonzeroPatterns : TableNonzero (cfgA .eq .seq) := by decide
theorem witness_InertPositionZeroKeepsTheSentinel : TablePos0Inert (cfgA .eq .seq) := by decide
theorem witness_DisplayDoesNotDetermineTheTime : TablePos0Inert (cfgA .ge .par) := by decide
theorem witness_TickAdvancesTheTimeOfDay :
    (st 23 59 59 3 7 .susp).fault = none ∧ ({ st 1 2 3 4 5 .gate with fault := some .walkOverrun } : State).fault ≠ none := by decide
theorem witness_FullRolloverKeepsTheStaleDisplay :
    let s := st 23 59 59 3 7 .susp
    s.cfg.widthsOk = true ∧ s.fault = none ∧ s.hours = 23 ∧ s.minutes = 59 ∧ s.seconds = 59 := by decide
theorem witness_RolloverComparisonsAgreeInRange :
    let s := st 23 59 59 3 7 .gate
    s.seconds ≤ 59 ∧ s.minutes ≤ 59 ∧ s.hours ≤ 23 := by decide
/-- A state with `n` ticks lined up before a `STEP`. -/
def ticking (n sec : Nat) : State := { st 12 34 sec 3 7 .susp with stims := secondsWords n ++ [0x07#5] }
theorem witness_TicksInsideAMinuteOnlyCount :
    ((ticking 0 59).cfg.widthsOk = true ∧ (ticking 0 59).fault = none ∧ (ticking 0 59).seconds + 0 < 60 ∧
      (ticking 0 59).minutes < 60 ∧ (ticking 0 59).hours < 24 ∧ (ticking 0 59).inact < 2 ^ (ticking 0 59).cfg.wInact ∧
      (ticking 0 59).stims = secondsWords 0 ++ [0x07#5]) ∧
    ((ticking 3 56).seconds + 3 < 60 ∧ (ticking 3 56).stims = secondsWords 3 ++ [0x07#5]) := by decide
theorem witness_SixtyTicksTurnOneMinute :
    (ticking 60 0).cfg.widthsOk = true ∧ (ticking 60 0).fault = none ∧ (ticking 60 0).seconds = 0 ∧ (ticking 60 0).minutes < 59 ∧
      (ticking 60 0).hours < 24 ∧ (ticking 60 0).inact < 2 ^ (ticking 60 0).cfg.wInact ∧
      (ticking 60 0).stims = secondsWords 60 ++ [0x07#5] := by decide
theorem witness_SecondsStayBelowSixty :
    (st 12 34 59 3 7 .gate).cfg.widthsOk = true ∧ (st 12 34 59 3 7 .gate).seconds < 60 ∧
      ∃ t, exec .tick (st 12 34 59 3 7 .gate) = .next t := ⟨by decide, by decide, _, rfl⟩
theorem witness_AdjustHoursNeverWrapsAtTwentyFour : (st 23 59 0 0 0 .gate).fault = none := by decide
theorem witness_AdjustMinutesNeverCarries : (st 7 59 0 0 0 .gate).fault = none := by decide
theorem witness_HourTwentyFourIsRepairedByTheNextTick :
    let s := st 23 59 58 0 0 .gate
    s.cfg.widthsOk = true ∧ s.fault = none ∧ s.hours = 23 ∧ s.minutes < 60 ∧ s.seconds < 59 := by decide
theorem witness_MinuteSixtyCarriesAtTheNextTick :
    let s := st 22 59 58 0 0 .gate
    s.cfg.widthsOk = true ∧ s.fault = none ∧ s.minutes = 59 ∧ s.hours < 23 ∧ s.seconds < 59 := by decide
theorem witness_HoursCheckAcceptsAPressedLine :
    (st 5 7 0 10 9 .gate).fault = none ∧ 10 ≤ (st 5 7 0 10 9 .gate).deb ∧ (st 5 7 0 9 9 .gate).fault = none := by decide
theorem witness_MinutesCheckAcceptsAPressedLine :
    (st 5 7 0 10 9 .gate).fault = none ∧ 10 ≤ (st 5 7 0 10 9 .gate).deb ∧ (st 5 7 0 9 9 .gate).fault = none := by decide
/-- Each clause at its boundary: `deb = 10` accepts, `deb = 9` and a high line do not, and the wake at `SUSP` is met. -/
theorem witness_WakeCheckResetsInactivity :
    ((st 5 7 0 10 25 .susp).fault = none ∧ (st 5 7 0 10 25 .susp).mpc = .susp ∧ 10 ≤ (st 5 7 0 10 25 .susp).deb) ∧
    ((st 5 7 0 9 25 .susp).fault = none ∧ ¬ 10 ≤ (st 5 7 0 9 25 .susp).deb) ∧ Level.high ≠ .low := by decide
theorem witness_SequentialChecksAcceptTheFirstPressedLine :
    (stA .ge .seq 5 7 0 10 9 .gate).fault = none ∧ (stA .ge .seq 5 7 0 10 9 .gate).cfg.edgeEval = .seq := by decide
theorem witness_ParallelChecksAcceptEveryPressedLine :
    (stA .ge .par 5 7 0 10 9 .susp).fault = none ∧ (stA .ge .par 5 7 0 10 9 .susp).cfg.edgeEval = .par := by decide
theorem witness_CompositionsAgreeOnOneLine :
    (st 5 7 0 9 9 .gate).deb < 10 ∧ ((.high : Level) = .high ∧ (.high : Level) = .high) := by decide
/-- Vector G12. -/
theorem witness_SecondEdgeBeforeAnyPassIsIgnored :
    (st 5 7 0 10 9 .gate).fault = none ∧ 10 ≤ (st 5 7 0 10 9 .gate).deb ∧ (.low : Level) = .low := by decide
theorem witness_AdjustPressesDoNotKeepAwake : ∃ t, exec (.edge .low .high .high) (st 5 7 0 10 9 .susp) = .next t := ⟨_, rfl⟩
theorem witness_EdgeFrame : ∃ t, exec (.edge .low .high .high) (st 5 7 0 9 9 .gate) = .next t ∧ (st 5 7 0 9 9 .gate).deb < 10 ∧
    (st 5 7 0 9 9 .gate).mpc ≠ .susp := ⟨_, rfl, by decide, by decide⟩
theorem witness_GateOpensBelowTheThreshold :
    let s := st 5 7 0 3 24 .gate
    s.fault = none ∧ s.mpc = .gate ∧ s.inact < 25 := by decide
theorem witness_GateSleepsAtTheThreshold :
    let s := st 5 7 0 3 25 .gate
    s.fault = none ∧ s.mpc = .gate ∧ 25 ≤ s.inact := by decide
theorem witness_WakeupLeavesSuspensionOnly :
    (st 5 7 0 3 25 .susp).fault = none ∧ (st 5 7 0 3 25 .susp).mpc = .susp ∧ (st 5 7 0 3 25 (.walk 2)).mpc ≠ .susp := by decide
theorem witness_OnlyHandlersAndResetEndSuspension :
    (st 5 7 0 10 25 .susp).mpc = .susp ∧ ∃ t, exec .tick (st 5 7 0 10 25 .susp) = .next t ∧ t.mpc ≠ .susp :=
  ⟨by decide, _, rfl, by decide⟩
theorem witness_EveryHandlerEndsSuspension : (st 5 7 0 10 25 .susp).fault = none ∧ (st 5 7 0 10 25 .susp).mpc = .susp := by decide
theorem witness_AdjustInTheDarkSleepsAgain :
    let s := st 5 7 0 10 25 .susp
    s.fault = none ∧ s.mpc = .susp ∧ s.deb = 10 ∧ 25 ≤ s.inact ∧ (.low : Level) = .low := by decide
theorem witness_WalkEmitsTheSlot :
    ((st 12 34 0 3 3 (.walk 0)).fault = none ∧ (st 12 34 0 3 3 (.walk 0)).mpc = .walk ⟨0, by omega⟩ ∧
      readSlot (st 12 34 0 3 3 (.walk 0)).seq 0 ≠ 0#8) ∧
    (let s : State := { st 12 34 0 3 3 (.walk 10) with seq := [(10, 0xBA#8)] };
      s.fault = none ∧ s.mpc = .walk ⟨10, by omega⟩ ∧ readSlot s.seq 10 ≠ 0#8) := by decide
theorem witness_SentinelEndsThePass :
    ((st 0 0 0 3 3 (.walk 0)).fault = none ∧ (st 0 0 0 3 3 (.walk 0)).mpc = .walk ⟨0, by omega⟩ ∧
      readSlot (st 0 0 0 3 3 (.walk 0)).seq 0 = 0#8) ∧
    ((st 31 63 0 3 3 (.walk 10)).mpc = .walk ⟨10, by omega⟩ ∧ readSlot (st 31 63 0 3 3 (.walk 10)).seq 10 = 0#8) := by decide
theorem witness_WalkPastTheBufferSetsTheFault :
    (st 31 63 0 0 0 (.walk 11)).fault = none ∧ (st 31 63 0 0 0 (.walk 11)).mpc = .walk 11 := by decide
theorem witness_FaultIsStickyUntilReset :
    ({ st 1 2 3 4 5 .gate with fault := some .walkOverrun } : State).fault ≠ none ∧ Instr.tick ≠ .reset := by decide
theorem witness_StepWhileSuspendedIsNoChange : (st 5 7 0 10 25 .susp).mpc = .susp := by decide
/-- A state at `GATE` with a whole pass lined up. -/
def passing (h m n : Nat) : State := { st h m 0 3 24 .gate with stims := passWords n ++ [0x0F#5] }
theorem witness_PassEmitsTheSequenceOnce :
    (let s := passing 31 63 10;
      s.cfg.widthsOk = true ∧ s.fault = none ∧ s.mpc = .gate ∧ s.inact < 25 ∧ 10 ≤ 10 ∧ (∀ i, i < 10 → readSlot s.seq i ≠ 0#8) ∧
      readSlot s.seq 10 = 0#8 ∧ s.stims = passWords 10 ++ [0x0F#5]) ∧
    (let s := passing 0 0 0;
      s.cfg.widthsOk = true ∧ s.fault = none ∧ s.mpc = .gate ∧ s.inact < 25 ∧ readSlot s.seq 0 = 0#8 ∧
      s.stims = passWords 0 ++ [0x0F#5]) := by decide
theorem witness_OnlyTheLoopAndResetWriteThePort :
    ∃ t, exec .walk (st 12 34 0 3 3 (.walk 0)) = .next t ∧ t.port ≠ (st 12 34 0 3 3 (.walk 0)).port := ⟨_, rfl, by decide⟩
theorem witness_PortIsNeverReadBack :
    ∃ t, exec .walk (st 12 34 0 3 3 (.walk 0)) = .next t ∧ t.trace ≠ (st 12 34 0 3 3 (.walk 0)).trace := ⟨_, rfl, by decide⟩
/-- Program P1 at its tick: the second slot has been emitted. -/
theorem witness_TornPassGoesOnInTheNewSequence :
    (∃ t, exec .tick (st 12 34 59 3 3 (.walk 2)) = .next t ∧ readSlot t.seq 2 ≠ 0#8) ∧
    (∃ t, exec .tick (st 0 3 59 0 0 (.walk 1)) = .next t ∧ readSlot t.seq 1 = 0#8) ∧
    (st 12 34 59 3 3 (.walk 2)).fault = none ∧ (st 12 34 59 3 3 (.walk 2)).mpc = .walk ⟨2, by omega⟩ :=
  ⟨⟨_, rfl, by decide⟩, ⟨_, rfl, by decide⟩, by decide, by decide⟩
theorem witness_InactivityCounterWriters :
    ∃ t, exec (.edge .high .high .low) (st 5 7 0 10 9 .gate) = .next t ∧ t.inact ≠ (st 5 7 0 10 9 .gate).inact := ⟨_, rfl, by decide⟩
theorem witness_DebounceCounterWriters :
    (∃ t, exec .step (st 0 0 0 3 3 (.walk 0)) = .next t ∧ t.deb ≠ (st 0 0 0 3 3 (.walk 0)).deb) ∧
    (∃ t, exec .step (st 0 0 0 3 25 .gate) = .next t ∧ t.deb ≠ (st 0 0 0 3 25 .gate).deb) := ⟨⟨_, rfl, by decide⟩, ⟨_, rfl, by decide⟩⟩
theorem witness_TimeAndSequenceWriters :
    ∃ t, exec .adjH (st 5 7 0 10 9 .gate) = .next t ∧ t.hours ≠ (st 5 7 0 10 9 .gate).hours := ⟨_, rfl, by decide⟩
theorem witness_EveryStepKeepsTheInvariant : StateInv lined ∧ ∃ t, step lined = .next t :=
  ⟨⟨⟨by decide, by decide, by decide, by decide, by decide⟩, by decide, ⟨12, 34, rfl⟩, fun v h => by cases h⟩, _, rfl⟩
/-- The reset values on fixture A. -/
def bare : State := { State.reset with cfg := cfgA .eq .seq }
theorem witness_ResetStartsClearOfTheOverrun : AtReset bare ∧ TablePos0Inert bare.cfg :=
  ⟨⟨rfl, rfl, rfl, rfl, rfl, rfl, rfl, rfl, rfl⟩, by decide⟩
theorem witness_NoStepOverrunsTheBuffer : NoOverrun lined ∧ ∃ t, step lined = .next t :=
  ⟨⟨by decide, ⟨12, 34, rfl⟩, by decide, rfl⟩, _, rfl⟩

end Sys2Proof.Tests
end

section
/-! The step as an equation in each of its cases, and the bounds of R7 (spec/00_scope.md rules R7, R10, R11). -/

namespace Sys2Proof.Machine

theorem widthsOk_iff (c : Config) :
    c.widthsOk = true ↔ 5 ≤ c.wHours ∧ 6 ≤ c.wMin ∧ 6 ≤ c.wSec ∧ 4 ≤ c.wDeb ∧ 5 ≤ c.wInact := by
  simp [Config.widthsOk, and_assoc]

/-- A well-formed configuration serves the next stimulus. -/
theorem step_of_widthsOk {s : State} (h : s.cfg.widthsOk = true) :
    step s = exec (decodeWord (nextWord s)) (takeWord s) := if_pos h

/-- An ill-formed configuration is refused. -/
theorem step_of_not_widthsOk {s : State} (h : ¬ s.cfg.widthsOk = true) : step s = .refused .illFormedConfig := if_neg h

/-- With nothing lined up the environment chooses. -/
theorem nextWord_of_nil {s : State} (e : s.stims = []) : nextWord s = Config.envStimulus s.envDraws := by
  simp [nextWord, e]

/-- A free choice is counted. -/
theorem takeWord_of_nil {s : State} (e : s.stims = []) : takeWord s = { s with envDraws := s.envDraws + 1 } := by
  simp [takeWord, e]

/-- Settles O5: the model's `step_of_stims`. -/
theorem stepServesTheStimulusLinedUp : Obligations.StepServesTheStimulusLinedUp := by
  intro s w rest i hw hs hi
  rw [step_of_stims hw hs, hi]

/-- Settles O6, whatever the opaque choice is. -/
theorem stepServesTheEnvironmentsFreeChoice : Obligations.StepServesTheEnvironmentsFreeChoice := by
  intro s hw hs
  rw [step_of_widthsOk hw, nextWord_of_nil hs, takeWord_of_nil hs]

/-- Settles O7: one narrow width breaks the conjunction of R7. -/
theorem narrowWidthsAreRefused : Obligations.NarrowWidthsAreRefused := by
  intro s hnarrow
  refine step_of_not_widthsOk fun hw => ?_
  rw [widthsOk_iff] at hw
  omega

/-- Settles O8: `exec` always answers one of its effects, and a well-formed configuration's step is an `exec`. -/
theorem everyOperationAndStepCompletes : Obligations.EveryOperationAndStepCompletes := by
  have completes (i : Instr) (s : State) : ∃ t, exec i s = .next t := by
    obtain ⟨t, ht, -⟩ := exec_effect i s
    exact ⟨t, ht⟩
  refine ⟨completes, fun s hh hm hs hd hi => ?_⟩
  rw [step_of_widthsOk ((widthsOk_iff s.cfg).2 ⟨hh, hm, hs, hd, hi⟩)]
  exact completes _ _

end Sys2Proof.Machine
end

section
/-! What no operation writes: the configuration and the environment's choices (spec/00_scope.md rules R6, R12, log entries 1 and 4). -/

namespace Sys2Proof.Machine

/-- No effect writes the configuration. -/
theorem Effect.cfg {i : Instr} {s t : State} (he : Effect i s t) : t.cfg = s.cfg := by
  cases he <;> simp

/-- No effect touches what the environment has lined up. -/
theorem Effect.stims {i : Instr} {s t : State} (he : Effect i s t) : t.stims = s.stims := by
  cases he <;> simp

/-- No effect makes a free choice of the environment. -/
theorem Effect.envDraws {i : Instr} {s t : State} (he : Effect i s t) : t.envDraws = s.envDraws := by
  cases he <;> simp

/-- A step is the effect of a decoded stimulus on the state with that stimulus taken. -/
theorem step_effect {s t : State} (h : step s = .next t) :
    s.cfg.widthsOk = true ∧ Effect (decodeWord (nextWord s)) (takeWord s) t := by
  obtain ⟨hw, hx⟩ := step_cases h
  exact ⟨hw, exec_cases hx⟩

/-- Settles O9, from the frames of the effects. -/
theorem configurationIsNeverWritten : Obligations.ConfigurationIsNeverWritten := by
  refine ⟨fun i s t h => ?_, fun s t h => ?_⟩
  · have he := exec_cases h
    exact ⟨he.cfg, he.stims, he.envDraws⟩
  · obtain ⟨-, he⟩ := step_effect h
    rw [he.cfg, takeWord_cfg]

end Sys2Proof.Machine
end

section
/-! The counters stay within their widths (spec/00_scope.md rule R8): every named update of the state keeps `CountersFit`, hence every
body, hence every effect. -/

namespace Sys2Proof.Machine

variable {s : State}

/-! ## The named updates -/

theorem CountersFit.setMpc (h : CountersFit s) (p : Mpc) : CountersFit (s.setMpc p) :=
  ⟨h.hours, h.minutes, h.seconds, h.deb, h.inact⟩

theorem CountersFit.setDeb (h : CountersFit s) {n : Nat} (hn : n < 2 ^ s.cfg.wDeb) : CountersFit (s.setDeb n) :=
  ⟨h.hours, h.minutes, h.seconds, hn, h.inact⟩

theorem CountersFit.clearDeb (h : CountersFit s) : CountersFit (s.setDeb 0) := h.setDeb (Nat.two_pow_pos _)

theorem CountersFit.clearInact (h : CountersFit s) : CountersFit (s.setInact 0) :=
  ⟨h.hours, h.minutes, h.seconds, h.deb, Nat.two_pow_pos _⟩

theorem CountersFit.incHours (h : CountersFit s) : CountersFit s.incHours :=
  ⟨incW_lt _ _, h.minutes, h.seconds, h.deb, h.inact⟩

theorem CountersFit.incMinutes (h : CountersFit s) : CountersFit s.incMinutes :=
  ⟨h.hours, incW_lt _ _, h.seconds, h.deb, h.inact⟩

theorem CountersFit.clearHours (h : CountersFit s) : CountersFit { s with hours := 0 } :=
  ⟨Nat.two_pow_pos _, h.minutes, h.seconds, h.deb, h.inact⟩

theorem CountersFit.clearMinutes (h : CountersFit s) : CountersFit { s with minutes := 0 } :=
  ⟨h.hours, Nat.two_pow_pos _, h.seconds, h.deb, h.inact⟩

theorem CountersFit.clearSeconds (h : CountersFit s) : CountersFit { s with seconds := 0 } :=
  ⟨h.hours, h.minutes, Nat.two_pow_pos _, h.deb, h.inact⟩

theorem CountersFit.refresh (h : CountersFit s) : CountersFit s.refresh :=
  ⟨h.hours, h.minutes, h.seconds, h.deb, h.inact⟩

theorem CountersFit.writePort (h : CountersFit s) (v : Byte) : CountersFit (s.writePort v) :=
  ⟨h.hours, h.minutes, h.seconds, h.deb, h.inact⟩

theorem CountersFit.raise (h : CountersFit s) (f : Fault) : CountersFit (s.raise f) :=
  ⟨h.hours, h.minutes, h.seconds, h.deb, h.inact⟩

theorem CountersFit.wake (h : CountersFit s) : CountersFit s.wake := by
  rw [wake_eq]
  exact h.setMpc _

theorem CountersFit.takeWord (h : CountersFit s) : CountersFit (takeWord s) := by
  constructor
  · simpa using h.hours
  · simpa using h.minutes
  · simpa using h.seconds
  · simpa using h.deb
  · simpa using h.inact

/-- Power-on clears every counter, whatever it held. -/
theorem countersFit_powerOn (s : State) : CountersFit s.powerOn :=
  ⟨Nat.two_pow_pos _, Nat.two_pow_pos _, Nat.two_pow_pos _, Nat.two_pow_pos _, Nat.two_pow_pos _⟩

/-! ## The handlers -/

theorem CountersFit.tickCount (h : CountersFit s) : CountersFit (tickCount s) :=
  ⟨h.hours, h.minutes, incW_lt _ _, h.deb, incW_lt _ _⟩

theorem CountersFit.rollSeconds (h : CountersFit s) : CountersFit (rollSeconds s) := by
  unfold Machine.rollSeconds
  split
  · exact h.clearSeconds.incMinutes.refresh
  · exact h

theorem CountersFit.rollMinutes (h : CountersFit s) : CountersFit (rollMinutes s) := by
  unfold Machine.rollMinutes
  split
  · exact h.clearMinutes.incHours
  · exact h

theorem CountersFit.rollHours (h : CountersFit s) : CountersFit (rollHours s) := by
  unfold Machine.rollHours
  split
  · exact h.clearHours
  · exact h

theorem CountersFit.tickBody (h : CountersFit s) : CountersFit (tickBody s) :=
  h.tickCount.rollSeconds.rollMinutes.rollHours

theorem CountersFit.adjustHours (h : CountersFit s) : CountersFit (adjustHours s) := h.incHours.refresh

theorem CountersFit.adjustMinutes (h : CountersFit s) : CountersFit (adjustMinutes s) := h.incMinutes.refresh

theorem CountersFit.checkHours (h : CountersFit s) (l : Level) : CountersFit (checkHours l s) := by
  unfold Machine.checkHours
  split
  · exact h.adjustHours.clearDeb
  · exact h

theorem CountersFit.checkMinutes (h : CountersFit s) (l : Level) : CountersFit (checkMinutes l s) := by
  unfold Machine.checkMinutes
  split
  · exact h.adjustMinutes.clearDeb
  · exact h

theorem CountersFit.checkWake (h : CountersFit s) (l : Level) : CountersFit (checkWake l s) := by
  unfold Machine.checkWake
  split
  · exact h.clearInact.clearDeb
  · exact h

/-- A guarded update keeps the bounds if the update does: each phase of `checksPar` is one. -/
theorem CountersFit.ite (h : CountersFit s) {b : Bool} {op : State → State} (hop : CountersFit (op s)) :
    CountersFit (if b then op s else s) := by
  cases b
  · exact h
  · exact hop

theorem CountersFit.checksPar (h : CountersFit s) (ph pm pw : Level) : CountersFit (checksPar ph pm pw s) := by
  have h₁ := h.ite (b := accepts ph s.deb) h.incHours
  have h₂ := h₁.ite (b := accepts pm s.deb) h₁.incMinutes
  have h₃ := h₂.ite (b := accepts ph s.deb || accepts pm s.deb) h₂.refresh
  have h₄ := h₃.ite (b := accepts pw s.deb) h₃.clearInact
  exact h₄.ite h₄.clearDeb

theorem CountersFit.edgeBody (h : CountersFit s) (ph pm pw : Level) : CountersFit (edgeBody ph pm pw s) := by
  unfold Machine.edgeBody
  split
  · exact ((h.checkHours ph).checkMinutes pm).checkWake pw
  · exact h.checksPar ph pm pw

/-! ## The loop -/

/-- Sleep entry forces `deb` to 10, which fits because a well-formed `W_DEB` is at least 4 (R7, R162). -/
theorem CountersFit.sleepNow (h : CountersFit s) (hw : s.cfg.widthsOk = true) : CountersFit (sleepNow s) := by
  obtain ⟨-, -, -, hdeb, -⟩ := widthsOk_pow hw
  have hfits : debThreshold < 2 ^ s.cfg.wDeb := lt_of_lt_of_le (by decide) hdeb
  exact ((h.setDeb hfits).writePort _).setMpc _

theorem CountersFit.gateStep (h : CountersFit s) (hw : s.cfg.widthsOk = true) : CountersFit (gateStep s) := by
  unfold Machine.gateStep
  split
  · exact h.sleepNow hw
  · exact h.setMpc _

theorem CountersFit.emitSlot (h : CountersFit s) (k : Fin 12) : CountersFit (emitSlot k s) :=
  (h.writePort _).setMpc _

theorem CountersFit.endPass (h : CountersFit s) : CountersFit (endPass s) := (h.setDeb (incW_lt _ _)).setMpc _

theorem CountersFit.walkStep (h : CountersFit s) (k : Fin 12) : CountersFit (walkStep k s) := by
  unfold Machine.walkStep
  split
  · split
    · exact h.emitSlot k
    · exact h.endPass
  · exact h.raise _

theorem CountersFit.mainStep (h : CountersFit s) (hw : s.cfg.widthsOk = true) : CountersFit (mainStep s) := by
  unfold Machine.mainStep
  split
  · exact h.gateStep hw
  · exact h.walkStep _
  · exact h

/-- Every effect on a state of a well-formed configuration keeps the counters within their widths. -/
theorem Effect.countersFit {i : Instr} {s t : State} (he : Effect i s t) (hw : s.cfg.widthsOk = true) (h : CountersFit s) :
    CountersFit t := by
  cases he with
  | idle => exact h
  | reset => exact countersFit_powerOn s
  | tick => exact h.tickBody.wake
  | edge ph pm pw => exact (h.edgeBody ph pm pw).wake
  | step => exact h.mainStep hw
  | encode => exact h.refresh
  | adjH => exact h.adjustHours
  | adjM => exact h.adjustMinutes
  | chkH l => exact h.checkHours l
  | chkM l => exact h.checkMinutes l
  | chkW l => exact h.checkWake l
  | gate => exact h.gateStep hw
  | sleepEntry => exact h.sleepNow hw
  | wakeup => exact h.wake
  | walk k => exact h.emitSlot k
  | passEnd => exact h.endPass
  | walkOverrun => exact h.raise _

end Sys2Proof.Machine
end

section
/-! `SEQ` is always the image of some `Encode(h, m)` (spec/10_state.md rules R26, R38): what writes it is a refresh or power-on. -/

namespace Sys2Proof.Machine

variable {s : State}

/-- What a refresh leaves is encoded, whatever stood there before. -/
theorem seqEncoded_refresh (s : State) : SeqEncoded s.refresh := ⟨s.hours, s.minutes, rfl⟩

/-- The cleared buffer of power-on is `Encode(0, 0)` (R101). -/
theorem seqEncoded_powerOn (s : State) : SeqEncoded s.powerOn := ⟨0, 0, rfl⟩

/-- What writes neither the table nor `SEQ` keeps it encoded. -/
theorem SeqEncoded.frame {t : State} (h : SeqEncoded s) (hcfg : t.cfg = s.cfg) (hseq : t.seq = s.seq) : SeqEncoded t := by
  obtain ⟨hr, mn, e⟩ := h
  exact ⟨hr, mn, by rw [hcfg, hseq, e]⟩

/-- The canonical form follows: it is what the whole-buffer write of 11 slots gives. -/
theorem SeqEncoded.wf (h : SeqEncoded s) : s.seq.wf := by
  obtain ⟨hr, mn, e⟩ := h
  rw [e]
  exact store_wf _ (by simp)

theorem SeqEncoded.tickBody (h : SeqEncoded s) : SeqEncoded (tickBody s) := by
  have hroll : SeqEncoded (rollSeconds (tickCount s)) := by
    unfold Machine.rollSeconds
    split
    · exact seqEncoded_refresh _
    · exact h
  exact hroll.frame (by simp [Machine.tickBody]) (by simp [Machine.tickBody])

theorem SeqEncoded.checkHours (h : SeqEncoded s) (l : Level) : SeqEncoded (checkHours l s) := by
  unfold Machine.checkHours
  split
  · exact (seqEncoded_refresh s.incHours).frame rfl rfl
  · exact h

theorem SeqEncoded.checkMinutes (h : SeqEncoded s) (l : Level) : SeqEncoded (checkMinutes l s) := by
  unfold Machine.checkMinutes
  split
  · exact (seqEncoded_refresh s.incMinutes).frame rfl rfl
  · exact h

theorem SeqEncoded.checksPar (h : SeqEncoded s) (ph pm pw : Level) : SeqEncoded (checksPar ph pm pw s) := by
  rw [checksPar_eq]
  cases accepts ph s.deb || accepts pm s.deb
  · exact h.frame rfl rfl
  · exact ⟨_, _, rfl⟩

theorem SeqEncoded.edgeBody (h : SeqEncoded s) (ph pm pw : Level) : SeqEncoded (edgeBody ph pm pw s) := by
  unfold Machine.edgeBody
  split
  · exact ((h.checkHours ph).checkMinutes pm).frame (checkWake_cfg _ _) (checkWake_seq _ _)
  · exact h.checksPar ph pm pw

/-- Every effect keeps `SEQ` the image of some `Encode(h, m)`. -/
theorem Effect.seqEncoded {i : Instr} {s t : State} (he : Effect i s t) (h : SeqEncoded s) : SeqEncoded t := by
  cases he with
  | idle => exact h
  | reset => exact seqEncoded_powerOn s
  | tick => exact h.tickBody.frame (by simp) (by simp)
  | edge ph pm pw => exact (h.edgeBody ph pm pw).frame (by simp) (by simp)
  | encode => exact seqEncoded_refresh s
  | adjH => exact seqEncoded_refresh s.incHours
  | adjM => exact seqEncoded_refresh s.incMinutes
  | chkH l => exact h.checkHours l
  | chkM l => exact h.checkMinutes l
  | step | chkW | gate | sleepEntry | wakeup | walk | passEnd | walkOverrun => exact h.frame (by simp) (by simp)

end Sys2Proof.Machine
end

section
/-! The latch holds the last write of the trace (spec/20_memory.md rule R54): a write changes both, power-on empties the trace, and
nothing else touches either. -/

namespace Sys2Proof.Machine

variable {s : State}

/-- Right after a write the latch holds the last write, whatever stood there before. -/
theorem portHoldsTrace_writePort (v : Byte) (s : State) : PortHoldsTrace (s.writePort v) := by
  intro u hu
  simpa using hu

/-- With the trace emptied there is no write to hold. -/
theorem portHoldsTrace_powerOn (s : State) : PortHoldsTrace s.powerOn := by
  intro u hu
  simp at hu

/-- What writes neither the latch nor the trace keeps them together. -/
theorem PortHoldsTrace.frame {t : State} (h : PortHoldsTrace s) (hport : t.port = s.port) (htrace : t.trace = s.trace) :
    PortHoldsTrace t := by
  intro u hu
  rw [hport]
  exact h u (htrace ▸ hu)

theorem portHoldsTrace_sleepNow (s : State) : PortHoldsTrace (sleepNow s) :=
  (portHoldsTrace_writePort s.cfg.idlePattern (s.setDeb debThreshold)).frame rfl rfl

theorem portHoldsTrace_emitSlot (k : Fin 12) (s : State) : PortHoldsTrace (emitSlot k s) :=
  (portHoldsTrace_writePort (readSlot s.seq k.val) s).frame rfl rfl

theorem PortHoldsTrace.gateStep (h : PortHoldsTrace s) : PortHoldsTrace (gateStep s) := by
  unfold Machine.gateStep
  split
  · exact portHoldsTrace_sleepNow s
  · exact h.frame rfl rfl

theorem PortHoldsTrace.walkStep (h : PortHoldsTrace s) (k : Fin 12) : PortHoldsTrace (walkStep k s) := by
  unfold Machine.walkStep
  split
  · split
    · exact portHoldsTrace_emitSlot k s
    · exact h.frame rfl rfl
  · exact h.frame rfl rfl

theorem PortHoldsTrace.mainStep (h : PortHoldsTrace s) : PortHoldsTrace (mainStep s) := by
  unfold Machine.mainStep
  split
  · exact h.gateStep
  · exact h.walkStep _
  · exact h

/-- Every effect keeps the last write of the trace in the latch. -/
theorem Effect.portHoldsTrace {i : Instr} {s t : State} (he : Effect i s t) (h : PortHoldsTrace s) : PortHoldsTrace t := by
  cases he with
  | idle => exact h
  | reset => exact portHoldsTrace_powerOn s
  | step => exact h.mainStep
  | gate => exact h.gateStep
  | sleepEntry => exact portHoldsTrace_sleepNow s
  | walk k => exact portHoldsTrace_emitSlot k s
  | tick | edge | encode | adjH | adjM | chkH | chkM | chkW | wakeup | passEnd | walkOverrun =>
    exact h.frame (by simp) (by simp)

end Sys2Proof.Machine
end

section
/-! The invariant of every step, put together from its three independent parts; the canonical form comes with the encoded one. -/

namespace Sys2Proof.Machine

/-- Taking the next stimulus keeps the invariant: it writes none of the block's fields. -/
theorem StateInv.takeWord {s : State} (h : StateInv s) : StateInv (takeWord s) where
  fit := h.fit.takeWord
  seqWf := by simpa using h.seqWf
  encoded := h.encoded.frame (by simp) (by simp)
  latch := h.latch.frame (by simp) (by simp)

/-- Every effect on a state of a well-formed configuration keeps the invariant. -/
theorem Effect.stateInv {i : Instr} {s t : State} (he : Effect i s t) (hw : s.cfg.widthsOk = true) (h : StateInv s) :
    StateInv t where
  fit := he.countersFit hw h.fit
  seqWf := (he.seqEncoded h.encoded).wf
  encoded := he.seqEncoded h.encoded
  latch := he.portHoldsTrace h.latch

/-- Settles O57: a step is the effect of a stimulus on the state with that stimulus taken. -/
theorem everyStepKeepsTheInvariant : Obligations.EveryStepKeepsTheInvariant := by
  intro s t hinv h
  obtain ⟨hw, he⟩ := step_effect h
  exact he.stateInv (by rwa [takeWord_cfg]) hinv.takeWord

end Sys2Proof.Machine
end

section
/-! What `MAIN`, the checks and `EDGE` can do, said once; and `seconds` after a tick (spec/41_clock.md rule R120, spec/42_input_debounce.md
rules R141 to R145, spec/44_display_loop.md rule R180). -/

namespace Sys2Proof.Machine

/-! ## The loop -/

theorem sleepDue_iff (n : Nat) : sleepDue n = true ↔ sleepThreshold ≤ n := decide_eq_true_iff

theorem gateStep_cases (s : State) :
    (sleepThreshold ≤ s.inact ∧ gateStep s = sleepNow s) ∨ (s.inact < sleepThreshold ∧ gateStep s = s.setMpc (.walk 0)) := by
  by_cases h : sleepDue s.inact = true
  · exact .inl ⟨(sleepDue_iff _).1 h, if_pos h⟩
  · exact .inr ⟨by rwa [sleepDue_iff, Nat.not_le] at h, if_neg h⟩

theorem walkStep_cases (k : Fin 12) (s : State) :
    walkStep k s = emitSlot k s ∨ walkStep k s = endPass s ∨ walkStep k s = s.raise .walkOverrun := by
  unfold walkStep
  split
  · split
    · exact .inl rfl
    · exact .inr (.inl rfl)
  · exact .inr (.inr rfl)

theorem mainStep_of_gate {s : State} (h : s.mpc = .gate) : mainStep s = gateStep s := by simp [mainStep, h]

theorem mainStep_of_walk {s : State} {k : Fin 12} (h : s.mpc = .walk k) : mainStep s = walkStep k s := by simp [mainStep, h]

theorem mainStep_of_susp {s : State} (h : s.mpc = .susp) : mainStep s = s := by simp [mainStep, h]

/-! ## The checks -/

/-- Before ten passes no line is accepted. -/
theorem accepts_of_lt {d : Nat} (h : d < debThreshold) (l : Level) : accepts l d = false := by
  rw [accepts_eq, decide_eq_false_iff_not]
  omega

/-- A check writes nothing, or its line is low at the threshold and it has its effect (R141). -/
theorem accepted_or_idle (l : Level) (s t : State) :
    (if accepts l s.deb then t else s) = s ∨
    (l = .low ∧ debThreshold ≤ s.deb ∧ (if accepts l s.deb then t else s) = t) := by
  by_cases h : accepts l s.deb = true
  · obtain ⟨hl, hd⟩ := (accepts_iff _ _).1 h
    exact .inr ⟨hl, hd, if_pos h⟩
  · exact .inl (if_neg h)

theorem checkHours_cases (l : Level) (s : State) :
    checkHours l s = s ∨ (l = .low ∧ debThreshold ≤ s.deb ∧ checkHours l s = (adjustHours s).setDeb 0) :=
  accepted_or_idle l s _

theorem checkMinutes_cases (l : Level) (s : State) :
    checkMinutes l s = s ∨ (l = .low ∧ debThreshold ≤ s.deb ∧ checkMinutes l s = (adjustMinutes s).setDeb 0) :=
  accepted_or_idle l s _

theorem checkWake_cases (l : Level) (s : State) :
    checkWake l s = s ∨ (l = .low ∧ debThreshold ≤ s.deb ∧ checkWake l s = (s.setInact 0).setDeb 0) :=
  accepted_or_idle l s _

/-- After an accepted line the minutes check does nothing. -/
theorem checkMinutes_of_deb_zero {s : State} (h : s.deb = 0) (l : Level) : checkMinutes l s = s := by
  simp [checkMinutes, h, accepts_zero]

/-- After an accepted line the wake check does nothing. -/
theorem checkWake_of_deb_zero {s : State} (h : s.deb = 0) (l : Level) : checkWake l s = s := by
  simp [checkWake, h, accepts_zero]

/-! ## EDGE -/

/-- What an `EDGE` that accepted a line did, under either composition: the debounce counter stood at its threshold and is cleared, only
a low wake line clears `inact`, and the time of day and the sequence are written for a low adjust line only. -/
structure LinesAccepted (ph pm pw : Level) (s t : State) : Prop where
  ready : debThreshold ≤ s.deb
  deb : t.deb = 0
  inact : t.inact = s.inact ∨ (pw = .low ∧ t.inact = 0)
  adjust : (t.hours = s.hours ∧ t.minutes = s.minutes ∧ t.seq = s.seq) ∨ ph = .low ∨ pm = .low

/-- Under `SEQ` the first low line is accepted, and the ones after it find `deb` cleared (R144). -/
theorem checksSeq_cases (ph pm pw : Level) (s : State) :
    checksSeq ph pm pw s = s ∨ LinesAccepted ph pm pw s (checksSeq ph pm pw s) := by
  unfold checksSeq
  rcases checkHours_cases ph s with eh | ⟨rfl, hd, eh⟩
  · rw [eh]
    rcases checkMinutes_cases pm s with em | ⟨rfl, hd, em⟩
    · rw [em]
      rcases checkWake_cases pw s with ew | ⟨rfl, hd, ew⟩
      · exact .inl ew
      · rw [ew]
        exact .inr ⟨hd, rfl, .inr ⟨rfl, rfl⟩, .inl ⟨rfl, rfl, rfl⟩⟩
    · rw [em, checkWake_of_deb_zero rfl]
      exact .inr ⟨hd, rfl, .inl rfl, .inr (.inr rfl)⟩
  · rw [eh, checkMinutes_of_deb_zero rfl, checkWake_of_deb_zero rfl]
    exact .inr ⟨hd, rfl, .inl rfl, .inr (.inl rfl)⟩

/-- With no line accepted `PAR` changes nothing. -/
theorem checksPar_of_none_accepted {ph pm pw : Level} {s : State}
    (h : (accepts ph s.deb || accepts pm s.deb || accepts pw s.deb) = false) : checksPar ph pm pw s = s := by
  simp only [Bool.or_eq_false_iff] at h
  obtain ⟨⟨hh, hm⟩, hw⟩ := h
  simp [checksPar, hh, hm, hw]

/-- Under `PAR` every low line is accepted at the one threshold test (R145). -/
theorem checksPar_cases (ph pm pw : Level) (s : State) :
    checksPar ph pm pw s = s ∨ LinesAccepted ph pm pw s (checksPar ph pm pw s) := by
  cases hany : accepts ph s.deb || accepts pm s.deb || accepts pw s.deb with
  | false => exact .inl (checksPar_of_none_accepted hany)
  | true =>
    right
    have ready : debThreshold ≤ s.deb := by
      by_contra hlt
      simp [accepts_of_lt (Nat.lt_of_not_le hlt)] at hany
    rw [checksPar_eq]
    refine ⟨ready, if_pos hany, ?_, ?_⟩
    · cases pw with
      | low => exact .inr ⟨rfl, if_pos ((accepts_iff _ _).2 ⟨rfl, ready⟩)⟩
      | high => exact .inl rfl
    · cases ph with
      | low => exact .inr (.inl rfl)
      | high =>
        cases pm with
        | low => exact .inr (.inr rfl)
        | high => exact .inl ⟨rfl, rfl, rfl⟩

theorem edgeBody_of_seq {s : State} (h : s.cfg.edgeEval = .seq) (ph pm pw : Level) :
    edgeBody ph pm pw s = checksSeq ph pm pw s := by simp [edgeBody, h]

theorem edgeBody_of_par {s : State} (h : s.cfg.edgeEval = .par) (ph pm pw : Level) :
    edgeBody ph pm pw s = checksPar ph pm pw s := by simp [edgeBody, h]

/-- An `EDGE` accepts no line and changes nothing, or it accepted one. -/
theorem edgeBody_cases (ph pm pw : Level) (s : State) :
    edgeBody ph pm pw s = s ∨ LinesAccepted ph pm pw s (edgeBody ph pm pw s) := by
  cases hev : s.cfg.edgeEval with
  | seq => rw [edgeBody_of_seq hev]; exact checksSeq_cases ph pm pw s
  | par => rw [edgeBody_of_par hev]; exact checksPar_cases ph pm pw s

/-! ## TICK -/

/-- `seconds` after a tick: counted, and cleared when it has reached 60; the later checks do not touch it. -/
theorem tickBody_seconds (s : State) :
    (tickBody s).seconds =
      if roll s.cfg.rollCmp (incW s.cfg.wSec s.seconds) secMod then 0 else incW s.cfg.wSec s.seconds := by
  rw [tickBody, rollHours_seconds, rollMinutes_seconds, rollSeconds_eq]
  rfl

/-- Every tick counts `inact`, and the rollover checks leave it (R126). -/
theorem tickBody_inact (s : State) : (tickBody s).inact = incW s.cfg.wInact s.inact := by
  rw [tickBody, rollHours_inact, rollMinutes_inact, rollSeconds_inact]
  rfl

end Sys2Proof.Machine
end

section
/-! The reset state and the invariants it starts (spec/10_state.md rules R28, R35; spec/44_display_loop.md rule R183). -/

namespace Sys2Proof.Machine

/-- The reset state is what power-on makes of it, so what power-on gives any state holds there. -/
theorem reset_eq_powerOn : State.reset = State.reset.powerOn := rfl

theorem atReset_powerOn (s : State) : AtReset s.powerOn := ⟨rfl, rfl, rfl, rfl, rfl, rfl, rfl, rfl, rfl⟩

/-- Power-on establishes the invariant from any state. -/
theorem stateInv_powerOn (s : State) : StateInv s.powerOn where
  fit := countersFit_powerOn s
  seqWf := (seqEncoded_powerOn s).wf
  encoded := seqEncoded_powerOn s
  latch := portHoldsTrace_powerOn s

theorem chip_widthsOk : Config.chip.widthsOk = true := (widthsOk_iff _).2 (by decide)

/-- Settles O56: the reset state is its own power-on, whatever the free values of the chip's configuration are. -/
theorem resetStateMeetsTheInvariant : Obligations.ResetStateMeetsTheInvariant := by
  refine ⟨?_, rfl, rfl, chip_widthsOk, ?_⟩
  · rw [reset_eq_powerOn]
    exact atReset_powerOn _
  · rw [reset_eq_powerOn]
    exact stateInv_powerOn _

/-- Settles O58: the cleared buffer is `Encode(0, 0)`, and the loop stands at `GATE`. -/
theorem resetStartsClearOfTheOverrun : Obligations.ResetStartsClearOfTheOverrun := by
  rintro s ⟨-, -, -, -, -, hseq, hmpc, hfault, -⟩ hinert
  exact
    { inert := hinert
      encoded := (seqEncoded_powerOn s).frame rfl hseq
      inside := by simp [hmpc]
      good := hfault }

end Sys2Proof.Machine
end

section
/-! What the encoder produces: the matched patterns in table order, then zeros (spec/40_encoder.md rules R102, R103), which is the packed
form when the patterns are non-zero (spec/10_state.md rule R26). -/

namespace Sys2Proof.Machine

/-- The empty selector matches no time word (R72). -/
theorem selects_none (tw : TimeWord) : selects none tw = false := by simp [selects, selMask]

/-- The zero time word matches no entry (R101). -/
theorem selects_zero (sel : Selector) : selects sel 0#11 = false := by simp [selects]

theorem matchedPatterns_zero (c : Config) : matchedPatterns c 0#11 = [] := by
  simp [matchedPatterns, selects_zero]

theorem matchedPatterns_length_le (c : Config) (tw : TimeWord) : (matchedPatterns c tw).length ≤ nSlots := by
  rw [matchedPatterns, List.length_map]
  exact (List.length_filter_le _ _).trans_eq (by simp)

/-- A matched entry has a selector, so under T3 its pattern is no sentinel. -/
theorem ne_sentinel_of_mem_matchedPatterns {c : Config} (hT3 : TableNonzero c) {tw : TimeWord} {b : Byte}
    (hb : b ∈ matchedPatterns c tw) : b ≠ sentinel := by
  obtain ⟨e, he, rfl⟩ := List.mem_map.1 hb
  obtain ⟨hmem, hsel⟩ := List.mem_filter.1 he
  refine hT3 e hmem fun hnone => ?_
  rw [hnone, selects_none] at hsel
  cases hsel

/-- The patterns of the matching entries of a part of the table, in table order. -/
def patternsOf (tw : TimeWord) (es : List Entry) : List Byte := (es.filter fun e => selects e.sel tw).map Entry.pat

/-- Over the whole table they are the matched patterns. -/
theorem patternsOf_encTable (c : Config) (tw : TimeWord) : patternsOf tw c.encTable.toList = matchedPatterns c tw := rfl

theorem patternsOf_cons_of_selects {tw : TimeWord} {e : Entry} (h : selects e.sel tw = true) (es : List Entry) :
    patternsOf tw (e :: es) = e.pat :: patternsOf tw es := by simp [patternsOf, h]

theorem patternsOf_cons_of_not_selects {tw : TimeWord} {e : Entry} (h : ¬ selects e.sel tw = true) (es : List Entry) :
    patternsOf tw (e :: es) = patternsOf tw es := by simp [patternsOf, h]

/-- The walk fills free slots in table order: after the slots `V` already filled come the patterns of the matching entries, and of the
`k` free slots the rest stay zero. -/
theorem encodeWalk_append_replicate (tw : TimeWord) (es : List Entry) (V : List Byte) (k : Nat)
    (hk : (patternsOf tw es).length ≤ k) :
    encodeWalk tw es (V ++ List.replicate k sentinel) V.length =
      V ++ patternsOf tw es ++ List.replicate (k - (patternsOf tw es).length) sentinel := by
  induction es generalizing V k with
  | nil => simp [encodeWalk, patternsOf]
  | cons e es ih =>
    by_cases he : selects e.sel tw = true
    · rw [patternsOf_cons_of_selects he] at hk ⊢
      obtain ⟨k, rfl⟩ := Nat.exists_eq_succ_of_ne_zero (Nat.ne_zero_of_lt hk)
      have hset : (V ++ List.replicate (k + 1) sentinel).set V.length e.pat = (V ++ [e.pat]) ++ List.replicate k sentinel := by
        simp [List.replicate_succ]
      have hlen : V.length + 1 = (V ++ [e.pat]).length := by simp
      rw [encodeWalk, if_pos he, hset, hlen, ih _ _ (Nat.le_of_succ_le_succ hk)]
      simp
    · rw [patternsOf_cons_of_not_selects he] at hk ⊢
      rw [encodeWalk, if_neg he, ih V k hk]

/-- `Encode` gives the matched patterns in table order, then zeros. -/
theorem encodeSlots_eq (c : Config) (h m : Nat) :
    encodeSlots c h m = matchedPatterns c (timeWord h m) ++
      List.replicate (nSlots - (matchedPatterns c (timeWord h m)).length) sentinel := by
  unfold encodeSlots
  split
  · rw [← patternsOf_encTable]
    exact encodeWalk_append_replicate (timeWord h m) c.encTable.toList [] nSlots (matchedPatterns_length_le c _)
  · rename_i htw
    rw [not_not.1 htw, matchedPatterns_zero]
    rfl

/-- Non-zero bytes followed by zeros are stored in packed form. -/
theorem packed_store {P : List Byte} (hP : ∀ b ∈ P, b ≠ sentinel) (k : Nat) :
    Packed (cellsFrom 0 (P ++ List.replicate k sentinel)) P.length := by
  constructor
  · intro i hi
    rw [readSlot_store, List.getD_append _ _ _ _ hi, List.getD_eq_getElem _ _ hi]
    exact hP _ (List.getElem_mem hi)
  · intro i hi
    rw [readSlot_store, List.getD_append_right _ _ _ _ hi]
    rw [List.getD_eq_getElem?_getD, List.getElem?_getD_replicate_default_eq]

/-- Settles O14: the encoder's slots are the matched patterns, non-zero under T3, and zeros. -/
theorem sequenceIsPackedUnderNonzeroPatterns : Obligations.SequenceIsPackedUnderNonzeroPatterns := by
  intro c h m hT3
  rw [encodeSlots_eq]
  exact packed_store (fun _ hb => ne_sentinel_of_mem_matchedPatterns hT3 hb) _

end Sys2Proof.Machine
end

section
/-! Who writes what: each field's writers, read off the effects (spec/10_state.md rules R23 to R25, R29, R34). -/

namespace Sys2Proof.Machine

variable {i : Instr} {s t : State}

/-! ## seconds -/

/-- Only the tick handler and power-on write `seconds` (R23). -/
theorem Effect.seconds_frame (he : Effect i s t) (htick : i ≠ .tick) (hreset : i ≠ .reset) : t.seconds = s.seconds := by
  cases he with
  | tick => exact absurd rfl htick
  | reset => exact absurd rfl hreset
  | idle | edge | step | encode | adjH | adjM | chkH | chkM | chkW | gate | sleepEntry | wakeup | walk | passEnd | walkOverrun => simp

/-- From below 60 a tick cannot wrap a well-formed `W_SEC` and lands on 60 at most, where either comparison clears it. -/
theorem tickBody_seconds_lt (hw : s.cfg.widthsOk = true) (h : s.seconds < secMod) : (tickBody s).seconds < secMod := by
  obtain ⟨-, -, hsec, -, -⟩ := widthsOk_pow hw
  have hnowrap : s.seconds + 1 < 2 ^ s.cfg.wSec := (Nat.succ_le_of_lt h).trans_lt (lt_of_lt_of_le (by decide) hsec)
  rw [tickBody_seconds, incW_of_lt _ _ hnowrap]
  rcases Nat.lt_or_eq_of_le (Nat.succ_le_of_lt h) with hlt | heq
  · rwa [roll_of_lt _ _ _ hlt]
  · rw [show s.seconds + 1 = secMod from heq, roll_self]
    decide

/-- Settles O22: `TICK` rolls over, power-on clears, and no other effect writes `seconds`. -/
theorem secondsStayBelowSixty : Obligations.SecondsStayBelowSixty := by
  intro i s t hw hlt h
  have he := exec_cases h
  by_cases htick : i = .tick
  · subst htick
    cases he with
    | idle => exact hlt
    | tick => simpa using tickBody_seconds_lt hw hlt
  · by_cases hreset : i = .reset
    · subst hreset
      cases he with
      | idle => exact hlt
      | reset => exact Nat.zero_lt_succ _
    · rwa [he.seconds_frame htick hreset]

/-! ## The latch and the trace -/

/-- Settles O49: the effects of the other operations leave both. -/
theorem onlyTheLoopAndResetWriteThePort : Obligations.OnlyTheLoopAndResetWriteThePort := by
  intro i s t h hwritten
  cases exec_cases h with
  | step => exact .inl rfl
  | walk => exact .inr (.inl rfl)
  | gate => exact .inr (.inr (.inl rfl))
  | sleepEntry => exact .inr (.inr (.inr (.inl rfl)))
  | reset => exact .inr (.inr (.inr (.inr rfl)))
  | idle | tick | edge | encode | adjH | adjM | chkH | chkM | chkW | wakeup | passEnd | walkOverrun => simp at hwritten

/-! ## inact -/

/-- Settles O52: `TICK` always counts, and a wake line is accepted under an `EDGE` or by its own check. -/
theorem inactivityCounterWriters : Obligations.InactivityCounterWriters := by
  intro i s t h hne
  cases exec_cases h with
  | tick => exact .inl ⟨rfl, by rw [State.wake_inact, tickBody_inact]; rfl⟩
  | edge ph pm pw =>
    rw [State.wake_inact] at hne ⊢
    rw [State.wake_deb]
    rcases edgeBody_cases ph pm pw s with e | acc
    · exact absurd (by rw [e]) hne
    · obtain ⟨rfl, hzero⟩ := acc.inact.resolve_left hne
      exact .inr (.inl ⟨.inl ⟨ph, pm, rfl⟩, acc.ready, hzero, acc.deb⟩)
  | chkW l =>
    rcases checkWake_cases l s with e | ⟨rfl, hd, e⟩
    · exact absurd (by rw [e]) hne
    · exact .inr (.inl ⟨.inr rfl, hd, by rw [e]; rfl, by rw [e]; rfl⟩)
  | reset => exact .inr (.inr ⟨rfl, rfl⟩)
  | idle | step | encode | adjH | adjM | chkH | chkM | gate | sleepEntry | wakeup | walk | passEnd | walkOverrun => simp at hne

/-! ## deb -/

/-- The gate writes `deb` only by going to sleep. -/
theorem gateStep_deb_of_ne (h : (gateStep s).deb ≠ s.deb) : sleepThreshold ≤ s.inact ∧ (gateStep s).deb = debThreshold := by
  rcases gateStep_cases s with ⟨hdue, e⟩ | ⟨-, e⟩
  · exact ⟨hdue, by rw [e]; rfl⟩
  · exact absurd (by rw [e]; rfl) h

/-- The walk writes `deb` only by ending the pass. -/
theorem walkStep_deb_of_ne {k : Fin 12} (h : (walkStep k s).deb ≠ s.deb) : (walkStep k s).deb = incW s.cfg.wDeb s.deb := by
  rcases walkStep_cases k s with e | e | e
  · exact absurd (by rw [e]; rfl) h
  · rw [e]; rfl
  · exact absurd (by rw [e]; rfl) h

/-- `MAIN` writes `deb` at the end of a pass and on going to sleep. -/
theorem mainStep_deb_of_ne (h : (mainStep s).deb ≠ s.deb) :
    ((∃ k, s.mpc = .walk k) ∧ (mainStep s).deb = incW s.cfg.wDeb s.deb) ∨
    (s.mpc = .gate ∧ sleepThreshold ≤ s.inact ∧ (mainStep s).deb = debThreshold) := by
  cases hp : s.mpc with
  | gate =>
    rw [mainStep_of_gate hp] at h ⊢
    exact .inr ⟨rfl, gateStep_deb_of_ne h⟩
  | walk k =>
    rw [mainStep_of_walk hp] at h ⊢
    exact .inl ⟨⟨k, rfl⟩, walkStep_deb_of_ne h⟩
  | susp => exact absurd (by rw [mainStep_of_susp hp]) h

/-- Settles O53: `MAIN` ends a pass or goes to sleep, an accepted line clears, power-on clears. -/
theorem debounceCounterWriters : Obligations.DebounceCounterWriters := by
  intro i s t h hne
  cases exec_cases h with
  | step =>
    rcases mainStep_deb_of_ne hne with ⟨hp, hd⟩ | ⟨hp, hdue, hd⟩
    · exact .inl ⟨.inl rfl, hp, hd⟩
    · exact .inr (.inr (.inl ⟨.inl rfl, hp, hdue, hd⟩))
  | passEnd k _ _ hp => exact .inl ⟨.inr rfl, ⟨k, hp⟩, rfl⟩
  | edge ph pm pw =>
    rw [State.wake_deb] at hne ⊢
    rcases edgeBody_cases ph pm pw s with e | acc
    · exact absurd (by rw [e]) hne
    · exact .inr (.inl ⟨.inl ⟨ph, pm, pw, rfl⟩, acc.ready, acc.deb⟩)
  | chkH l =>
    rcases checkHours_cases l s with e | ⟨rfl, hd, e⟩
    · exact absurd (by rw [e]) hne
    · exact .inr (.inl ⟨.inr (.inl rfl), hd, by rw [e]; rfl⟩)
  | chkM l =>
    rcases checkMinutes_cases l s with e | ⟨rfl, hd, e⟩
    · exact absurd (by rw [e]) hne
    · exact .inr (.inl ⟨.inr (.inr (.inl rfl)), hd, by rw [e]; rfl⟩)
  | chkW l =>
    rcases checkWake_cases l s with e | ⟨rfl, hd, e⟩
    · exact absurd (by rw [e]) hne
    · exact .inr (.inl ⟨.inr (.inr (.inr rfl)), hd, by rw [e]; rfl⟩)
  | gate _ _ hp =>
    obtain ⟨hdue, hd⟩ := gateStep_deb_of_ne hne
    exact .inr (.inr (.inl ⟨.inr (.inl rfl), hp, hdue, hd⟩))
  | sleepEntry _ _ hp hdue => exact .inr (.inr (.inl ⟨.inr (.inr rfl), hp, (sleepDue_iff _).1 hdue, rfl⟩))
  | reset => exact .inr (.inr (.inr ⟨rfl, rfl⟩))
  | idle | tick | encode | adjH | adjM | wakeup | walk | walkOverrun => simp at hne

/-! ## The time of day and the sequence -/

/-- The time of day or a slot of the sequence differs between two states. -/
def DisplayDiffers (s t : State) : Prop :=
  t.hours ≠ s.hours ∨ t.minutes ≠ s.minutes ∨ ∃ a, readSlot t.seq a ≠ readSlot s.seq a

theorem not_displayDiffers (hh : t.hours = s.hours) (hm : t.minutes = s.minutes) (hseq : t.seq = s.seq) : ¬ DisplayDiffers s t := by
  simp [DisplayDiffers, hh, hm, hseq]

/-- Settles O54: an `EDGE` writes them for an accepted low adjust line only, a check for its own line, and `MAIN` never. -/
theorem timeAndSequenceWriters : Obligations.TimeAndSequenceWriters := by
  intro i s t h
  have he := exec_cases h
  refine ⟨he.seconds_frame, fun (hd : DisplayDiffers s t) => ?_⟩
  cases he with
  | tick | encode | adjH | adjM | reset => simp
  | edge ph pm pw =>
    rcases edgeBody_cases ph pm pw s with e | acc
    · exact absurd hd (not_displayDiffers (by simp [e]) (by simp [e]) (by simp [e]))
    · rcases acc.adjust with ⟨hh, hm, hseq⟩ | hlow
      · exact absurd hd (not_displayDiffers (by simpa using hh) (by simpa using hm) (by simpa using hseq))
      · exact .inr (.inl ⟨ph, pm, pw, rfl, acc.ready, hlow⟩)
  | chkH l =>
    rcases checkHours_cases l s with e | ⟨rfl, -, -⟩
    · exact absurd hd (not_displayDiffers (by rw [e]) (by rw [e]) (by rw [e]))
    · simp
  | chkM l =>
    rcases checkMinutes_cases l s with e | ⟨rfl, -, -⟩
    · exact absurd hd (not_displayDiffers (by rw [e]) (by rw [e]) (by rw [e]))
    · simp
  | idle | step | chkW | gate | sleepEntry | wakeup | walk | passEnd | walkOverrun =>
    exact absurd hd (not_displayDiffers (by simp) (by simp) (by simp))

end Sys2Proof.Machine
end

section
/-! The latch is never read back (spec/10_state.md rule R29, spec/20_memory.md rule R54): every body either leaves the latch and commutes
with changing it, or overwrites it with a value that does not depend on it. -/

namespace Sys2Proof.Machine

/-- The same state with another value in the latch and no write in the trace: what a read-back would have to tell apart. -/
def State.withPort (p : Byte) (s : State) : State := { s with port := p }

/-! ## Bodies that leave the latch -/

theorem wake_withPort (p : Byte) (s : State) : (s.withPort p).wake = s.wake.withPort p := by
  rw [wake_eq, wake_eq]
  rfl

theorem tickBody_withPort (p : Byte) (s : State) : tickBody (s.withPort p) = (tickBody s).withPort p := by
  simp only [tickBody, rollHours_eq, rollMinutes_eq, rollSeconds_eq]
  rfl

theorem checkHours_withPort (l : Level) (p : Byte) (s : State) : checkHours l (s.withPort p) = (checkHours l s).withPort p := by
  rw [checkHours_eq, checkHours_eq]
  rfl

theorem checkMinutes_withPort (l : Level) (p : Byte) (s : State) :
    checkMinutes l (s.withPort p) = (checkMinutes l s).withPort p := by
  rw [checkMinutes_eq, checkMinutes_eq]
  rfl

theorem checkWake_withPort (l : Level) (p : Byte) (s : State) : checkWake l (s.withPort p) = (checkWake l s).withPort p := by
  rw [checkWake_eq, checkWake_eq]
  rfl

theorem checksPar_withPort (ph pm pw : Level) (p : Byte) (s : State) :
    checksPar ph pm pw (s.withPort p) = (checksPar ph pm pw s).withPort p := by
  rw [checksPar_eq, checksPar_eq]
  rfl

theorem edgeBody_withPort (ph pm pw : Level) (p : Byte) (s : State) :
    edgeBody ph pm pw (s.withPort p) = (edgeBody ph pm pw s).withPort p := by
  cases hev : s.cfg.edgeEval with
  | seq =>
    rw [edgeBody_of_seq (s := s.withPort p) hev, edgeBody_of_seq hev, checksSeq, checkHours_withPort, checkMinutes_withPort,
      checkWake_withPort]
    rfl
  | par => rw [edgeBody_of_par (s := s.withPort p) hev, edgeBody_of_par hev, checksPar_withPort]

/-! ## Blindness to the latch -/

variable {op op' : State → State} {s : State}

/-- At `s` the operation gives the same next state whatever the latch holds, but for the latch itself; and if it writes the latch, the
value written is the same too. -/
def PortBlindAt (op : State → State) (s : State) : Prop :=
  ∀ p, ∃ q, op (s.withPort p) = (op s).withPort q ∧ ((op s).trace ≠ s.trace → q = (op s).port)

theorem PortBlindAt.of_leaves (hcomm : ∀ p, op (s.withPort p) = (op s).withPort p) (htrace : (op s).trace = s.trace) :
    PortBlindAt op s :=
  fun p => ⟨p, hcomm p, fun h => absurd htrace h⟩

theorem PortBlindAt.of_overwrites (h : ∀ p, op (s.withPort p) = op s) : PortBlindAt op s :=
  fun p => ⟨(op s).port, h p, fun _ => rfl⟩

/-- An operation that runs as `op` whatever the latch holds is as blind as `op`. -/
theorem PortBlindAt.congr (hop : PortBlindAt op s) (h : ∀ p, op' (s.withPort p) = op (s.withPort p)) : PortBlindAt op' s := by
  have hs : op' s = op s := h s.port
  intro p
  rw [h p, hs]
  exact hop p

theorem portBlindAt_id : PortBlindAt id s := .of_leaves (fun _ => rfl) rfl

theorem PortBlindAt.unlessFaulted (hop : PortBlindAt op s) : PortBlindAt (unlessFaulted op) s := by
  by_cases hf : s.fault = none
  · exact hop.congr fun p => unlessFaulted_of_none op _ hf
  · exact portBlindAt_id.congr fun p => unlessFaulted_of_fault op _ hf

theorem PortBlindAt.whenSelected (hop : PortBlindAt op s) (b : Bool) : PortBlindAt (whenSelected b op) s := by
  cases b with
  | false => exact portBlindAt_id
  | true => exact hop.unlessFaulted

/-! ## The loop -/

theorem portBlindAt_sleepNow : PortBlindAt sleepNow s := .of_overwrites fun _ => rfl

theorem portBlindAt_emitSlot (k : Fin 12) : PortBlindAt (emitSlot k) s := .of_overwrites fun _ => rfl

theorem portBlindAt_setMpc (m : Mpc) : PortBlindAt (State.setMpc m) s := .of_leaves (fun _ => rfl) rfl

theorem portBlindAt_endPass : PortBlindAt endPass s := .of_leaves (fun _ => rfl) rfl

theorem portBlindAt_raise (f : Fault) : PortBlindAt (State.raise f) s := .of_leaves (fun _ => rfl) rfl

theorem portBlindAt_gateStep : PortBlindAt gateStep s := by
  by_cases h : sleepDue s.inact = true
  · exact portBlindAt_sleepNow.congr fun p => if_pos h
  · exact (portBlindAt_setMpc (.walk 0)).congr fun p => if_neg h

theorem portBlindAt_walkStep (k : Fin 12) : PortBlindAt (walkStep k) s := by
  by_cases hin : k.val < nSlots
  · by_cases hv : readSlot s.seq k.val ≠ sentinel
    · exact (portBlindAt_emitSlot k).congr fun p => (if_pos hin).trans (if_pos hv)
    · exact portBlindAt_endPass.congr fun p => (if_pos hin).trans (if_neg hv)
  · exact (portBlindAt_raise .walkOverrun).congr fun p => if_neg hin

theorem portBlindAt_mainStep : PortBlindAt mainStep s := by
  cases hp : s.mpc with
  | gate => exact portBlindAt_gateStep.congr fun p => mainStep_of_gate hp
  | walk k => exact (portBlindAt_walkStep k).congr fun p => mainStep_of_walk hp
  | susp => exact portBlindAt_id.congr fun p => mainStep_of_susp hp

/-! ## The handlers -/

/-- A handler is as blind as its body: the return from it does not touch the latch. -/
theorem portBlindAt_serveHandler {body : State → State} (hcomm : ∀ p, body (s.withPort p) = (body s).withPort p)
    (htrace : (body s).trace = s.trace) : PortBlindAt (serveHandler body) s :=
  (PortBlindAt.of_leaves (op := fun u => (body u).wake) (fun p => by rw [hcomm p, wake_withPort])
    (by rw [State.wake_trace, htrace])).unlessFaulted

/-! ## Every operation -/

/-- `exec` never reads the latch back, from a state `s`. -/
def ExecPortBlind (i : Instr) (s : State) : Prop :=
  ∀ t p, exec i s = .next t → ∃ q, exec i (s.withPort p) = .next (t.withPort q) ∧ (t.trace ≠ s.trace → q = t.port)

/-- Where `exec` runs `op` whatever the latch holds, `op`'s blindness is the operation's. -/
theorem PortBlindAt.toExec {i : Instr} (hop : PortBlindAt op s) (hexec : ∀ p, exec i (s.withPort p) = .next (op (s.withPort p))) :
    ExecPortBlind i s := by
  intro t p h
  have hs : exec i s = .next (op s) := hexec s.port
  rw [h] at hs
  cases hs
  obtain ⟨q, hq, hwritten⟩ := hop p
  exact ⟨q, by rw [hexec p, hq], hwritten⟩

/-- An operation whose whole body leaves the latch. -/
theorem execPortBlind_of_leaves {i : Instr} (hexec : ∀ p, exec i (s.withPort p) = .next (unlessFaulted op (s.withPort p)))
    (hcomm : ∀ p, op (s.withPort p) = (op s).withPort p) (htrace : (op s).trace = s.trace) : ExecPortBlind i s :=
  (PortBlindAt.of_leaves hcomm htrace).unlessFaulted.toExec hexec

theorem exec_walk_of_walk {k : Fin 12} (hp : s.mpc = .walk k) :
    exec .walk s = .next (whenSelected (decide (k.val < nSlots) && readSlot s.seq k.val != sentinel) (emitSlot k) s) := by
  simp [exec, execWalk, hp]

theorem exec_passEnd_of_walk {k : Fin 12} (hp : s.mpc = .walk k) :
    exec .passEnd s = .next (whenSelected (decide (k.val < nSlots) && readSlot s.seq k.val == sentinel) endPass s) := by
  simp [exec, execPassEnd, hp]

/-- Outside the walk neither of its sub-operations is selected. -/
theorem exec_walk_passEnd_of_not_walk (hp : ∀ k, s.mpc ≠ .walk k) : exec .walk s = .next s ∧ exec .passEnd s = .next s := by
  cases hm : s.mpc with
  | gate => simp [exec, execWalk, execPassEnd, hm]
  | walk k => exact absurd hm (hp k)
  | susp => simp [exec, execWalk, execPassEnd, hm]

theorem execPortBlind_walk : ExecPortBlind .walk s := by
  by_cases hp : ∃ k, s.mpc = .walk k
  · obtain ⟨k, hk⟩ := hp
    exact ((portBlindAt_emitSlot k).whenSelected (decide (k.val < nSlots) && readSlot s.seq k.val != sentinel)).toExec
      fun p => exec_walk_of_walk (s := s.withPort p) hk
  · exact portBlindAt_id.toExec fun p => (exec_walk_passEnd_of_not_walk (s := s.withPort p) (not_exists.1 hp)).1

theorem execPortBlind_passEnd : ExecPortBlind .passEnd s := by
  by_cases hp : ∃ k, s.mpc = .walk k
  · obtain ⟨k, hk⟩ := hp
    exact (portBlindAt_endPass.whenSelected (decide (k.val < nSlots) && readSlot s.seq k.val == sentinel)).toExec
      fun p => exec_passEnd_of_walk (s := s.withPort p) hk
  · exact portBlindAt_id.toExec fun p => (exec_walk_passEnd_of_not_walk (s := s.withPort p) (not_exists.1 hp)).2

/-- No operation reads the latch back. -/
theorem execPortBlind (i : Instr) (s : State) : ExecPortBlind i s := by
  cases i with
  | step => exact portBlindAt_mainStep.unlessFaulted.toExec fun _ => rfl
  | tick => exact (portBlindAt_serveHandler (tickBody_withPort · s) (tickBody_trace s)).toExec fun _ => rfl
  | edge ph pm pw =>
    exact (portBlindAt_serveHandler (edgeBody_withPort ph pm pw · s) (edgeBody_trace ph pm pw s)).toExec fun _ => rfl
  | reset => exact (PortBlindAt.of_overwrites (op := State.powerOn) fun _ => rfl).toExec fun _ => rfl
  | encode => exact execPortBlind_of_leaves (op := State.refresh) (fun _ => rfl) (fun _ => rfl) rfl
  | adjH => exact execPortBlind_of_leaves (op := adjustHours) (fun _ => rfl) (fun _ => rfl) rfl
  | adjM => exact execPortBlind_of_leaves (op := adjustMinutes) (fun _ => rfl) (fun _ => rfl) rfl
  | chkH l => exact execPortBlind_of_leaves (fun _ => rfl) (checkHours_withPort l · s) (checkHours_trace l s)
  | chkM l => exact execPortBlind_of_leaves (fun _ => rfl) (checkMinutes_withPort l · s) (checkMinutes_trace l s)
  | chkW l => exact execPortBlind_of_leaves (fun _ => rfl) (checkWake_withPort l · s) (checkWake_trace l s)
  | gate => exact (portBlindAt_gateStep.whenSelected (s.mpc == .gate)).toExec fun _ => rfl
  | sleepEntry => exact (portBlindAt_sleepNow.whenSelected (s.mpc == .gate && sleepDue s.inact)).toExec fun _ => rfl
  | wakeup => exact execPortBlind_of_leaves (fun _ => rfl) (wake_withPort · s) (State.wake_trace s)
  | walk => exact execPortBlind_walk
  | passEnd => exact execPortBlind_passEnd
  | walkOverrun => exact ((portBlindAt_raise .walkOverrun).whenSelected (s.mpc == .walk 11)).toExec fun _ => rfl

/-- Settles O50: the blindness of each operation, read at the given next state. -/
theorem portIsNeverReadBack : Obligations.PortIsNeverReadBack :=
  fun i s t p h => execPortBlind i s t p h

end Sys2Proof.Machine
end

section
/-! The torn pass (spec/20_memory.md rule R61, spec/60_exceptions.md rule R206): a handler served in mid-walk leaves everything the loop
goes by except the sequence, and the loop goes on at the same slot. -/

namespace Sys2Proof.Machine

variable {s t : State}

/-! ## A handler in mid-walk -/

/-- In mid-walk the return from a handler does nothing: the next state is that of the body alone. -/
theorem serveHandler_of_walk {body : State → State} {k : Fin 12} (hf : s.fault = none) (hp : s.mpc = .walk k)
    (hbody : (body s).mpc = s.mpc) : serveHandler body s = body s := by
  rw [serveHandler_of_none body s hf, wake_of_ne]
  simp [hbody, hp]

theorem exec_tick_of_walk {k : Fin 12} (hf : s.fault = none) (hp : s.mpc = .walk k) : exec .tick s = .next (tickBody s) :=
  congrArg Host.Outcome.next (serveHandler_of_walk hf hp (tickBody_mpc s))

theorem exec_edge_of_walk {k : Fin 12} (ph pm pw : Level) (hf : s.fault = none) (hp : s.mpc = .walk k) :
    exec (.edge ph pm pw) s = .next (edgeBody ph pm pw s) :=
  congrArg Host.Outcome.next (serveHandler_of_walk hf hp (edgeBody_mpc ph pm pw s))

/-- Position, latch, trace and fault are the same in two states: the sequence apart, what a walking `MAIN` goes by and writes. -/
structure SameWalk (s t : State) : Prop where
  mpc : t.mpc = s.mpc
  port : t.port = s.port
  trace : t.trace = s.trace
  fault : t.fault = s.fault

theorem sameWalk_tickBody (s : State) : SameWalk s (tickBody s) :=
  ⟨tickBody_mpc s, tickBody_port s, tickBody_trace s, tickBody_fault s⟩

theorem sameWalk_edgeBody (ph pm pw : Level) (s : State) : SameWalk s (edgeBody ph pm pw s) :=
  ⟨edgeBody_mpc ph pm pw s, edgeBody_port ph pm pw s, edgeBody_trace ph pm pw s, edgeBody_fault ph pm pw s⟩

/-- Both handlers of the block leave the walk where it was. -/
theorem sameWalk_of_handler {i : Instr} {k : Fin 12} (hi : i = .tick ∨ ∃ ph pm pw, i = .edge ph pm pw) (hf : s.fault = none)
    (hp : s.mpc = .walk k) (h : exec i s = .next t) : SameWalk s t := by
  rcases hi with rfl | ⟨ph, pm, pw, rfl⟩
  · rw [exec_tick_of_walk hf hp] at h
    cases h
    exact sameWalk_tickBody s
  · rw [exec_edge_of_walk ph pm pw hf hp] at h
    cases h
    exact sameWalk_edgeBody ph pm pw s

/-! ## The next `STEP` -/

theorem exec_step_of_walk {k : Fin 12} (hf : s.fault = none) (hp : s.mpc = .walk k) : exec .step s = .next (walkStep k s) :=
  congrArg Host.Outcome.next ((unlessFaulted_of_none mainStep s hf).trans (mainStep_of_walk hp))

/-- `STEP` at a slot that holds a pattern emits it (R181). -/
theorem exec_step_of_slot {k : Fin 12} (hf : s.fault = none) (hp : s.mpc = .walk k) (hk : k.val < nSlots)
    (hv : readSlot s.seq k.val ≠ sentinel) : exec .step s = .next (emitSlot k s) := by
  rw [exec_step_of_walk hf hp, walkStep, if_pos hk, if_pos hv]

/-- `STEP` at the sentinel ends the pass (R182). -/
theorem exec_step_of_sentinel {k : Fin 12} (hf : s.fault = none) (hp : s.mpc = .walk k) (hk : k.val < nSlots)
    (hv : readSlot s.seq k.val = sentinel) : exec .step s = .next (endPass s) := by
  rw [exec_step_of_walk hf hp, walkStep, if_pos hk, if_neg (not_not_intro hv)]

/-- Inside the buffer the position after a slot does not wrap. -/
theorem emitSlot_mpc_of_lt {k : Nat} (hk : k < nSlots) (s : State) :
    (emitSlot ⟨k, Nat.lt_succ_of_lt hk⟩ s).mpc = .walk ⟨k + 1, Nat.succ_lt_succ hk⟩ :=
  congrArg Mpc.walk (Fin.ext (Nat.mod_eq_of_lt (Nat.succ_lt_succ hk)))

/-- Settles O51: the handler leaves the walk as it was, and the next `STEP` emits or ends by the sequence the handler left. -/
theorem tornPassGoesOnInTheNewSequence : Obligations.TornPassGoesOnInTheNewSequence := by
  intro i s t k hk hi hf hp h
  have same := sameWalk_of_handler hi hf hp h
  have hft : t.fault = none := same.fault.trans hf
  have hpt : t.mpc = .walk ⟨k, Nat.lt_succ_of_lt hk⟩ := same.mpc.trans hp
  refine ⟨hpt, same.port, same.trace, fun hpat => ?pattern, fun hend => ?sentinel⟩
  case pattern => exact ⟨_, exec_step_of_slot hft hpt hk hpat, rfl, congrArg (· ++ _) same.trace, emitSlot_mpc_of_lt hk t⟩
  case sentinel => exact ⟨_, exec_step_of_sentinel hft hpt hk hend, same.port, same.trace, rfl⟩

end Sys2Proof.Machine
end

section
/-! The stimulus word (spec/30_encoding.md rules R76 to R79): what the decoder answers on each kind, and the word an operation owns. -/

namespace Sys2Proof

/-! ## Decoding by the field `kind` -/

theorem kindField_cases (w : StimWord) : kindField w = 0#2 ∨ kindField w = 1#2 ∨ kindField w = 2#2 ∨ kindField w = 3#2 := by
  generalize kindField w = k
  revert k
  decide

theorem decodeWord_of_kind_zero {w : StimWord} (h : kindField w = 0#2) : decodeWord w = .step := by
  simp [decodeWord, h]

theorem decodeWord_of_kind_one {w : StimWord} (h : kindField w = 1#2) : decodeWord w = .tick := by
  simp [decodeWord, h]

theorem decodeWord_of_kind_two {w : StimWord} (h : kindField w = 2#2) :
    decodeWord w = .edge (.ofBit (w.getLsbD 0)) (.ofBit (w.getLsbD 1)) (.ofBit (w.getLsbD 2)) := by
  simp [decodeWord, h]

theorem decodeWord_of_kind_three {w : StimWord} (h : kindField w = 3#2) : decodeWord w = .reset := by
  simp [decodeWord, h]

/-- Settles O1: each word's kind picks the equation, and the operand bits of an `EDGE` compute to its levels. -/
theorem stimulusWordsDecodeAsTheTableSays : Obligations.StimulusWordsDecodeAsTheTableSays :=
  ⟨decodeWord_of_kind_zero rfl, decodeWord_of_kind_zero rfl, decodeWord_of_kind_one rfl,
    decodeWord_of_kind_two rfl, decodeWord_of_kind_two rfl, decodeWord_of_kind_two rfl, decodeWord_of_kind_two rfl,
    decodeWord_of_kind_two rfl, decodeWord_of_kind_three rfl, decodeWord_of_kind_three rfl⟩

/-! ## The canonical spelling -/

@[simp] theorem Level.bit_ofBit (b : Bool) : (Level.ofBit b).bit = b := by cases b <;> rfl

/-- A word is its kind above its three operand bits. -/
theorem kindField_append_operands (w : StimWord) :
    kindField w ++ BitVec.ofBool (w.getLsbD 2) ++ BitVec.ofBool (w.getLsbD 1) ++ BitVec.ofBool (w.getLsbD 0) = w := by
  revert w
  decide

/-- Setting the operand bits leaves the kind. -/
theorem or_seven_eq_kindField_append (w : StimWord) : w ||| 7#5 = kindField w ++ 7#3 := by
  revert w
  decide

/-- No operand bit of an `EDGE` is ignored: its levels spell the word again. -/
theorem edgeWord_of_kind_two {w : StimWord} (h : kindField w = 2#2) :
    edgeWord (.ofBit (w.getLsbD 0)) (.ofBit (w.getLsbD 1)) (.ofBit (w.getLsbD 2)) = w := by
  simpa only [edgeWord, Level.bit_ofBit, h] using kindField_append_operands w

theorem canonicalWord_of_kind_two {w : StimWord} (h : kindField w = 2#2) : canonicalWord w = w := if_pos h

/-- Where the operand bits are ignored the canonical spelling depends on the kind alone. -/
theorem canonicalWord_of_kind_ne_two {w : StimWord} {k : BitVec 2} (h : kindField w = k) (hk : k ≠ 2#2) :
    canonicalWord w = k ++ 7#3 := by
  rw [canonicalWord, if_neg (h.trans_ne hk), or_seven_eq_kindField_append, h]

/-- Settles O3, one kind at a time. -/
theorem everyWordIsAStimulus : Obligations.EveryWordIsAStimulus := by
  intro w
  rcases kindField_cases w with h | h | h | h
  · rw [decodeWord_of_kind_zero h, canonicalWord_of_kind_ne_two h (by decide)]
    exact ⟨rfl, rfl⟩
  · rw [decodeWord_of_kind_one h, canonicalWord_of_kind_ne_two h (by decide)]
    exact ⟨rfl, rfl⟩
  · rw [decodeWord_of_kind_two h, canonicalWord_of_kind_two h]
    exact ⟨rfl, congrArg some (edgeWord_of_kind_two h)⟩
  · rw [decodeWord_of_kind_three h, canonicalWord_of_kind_ne_two h (by decide)]
    exact ⟨rfl, rfl⟩

/-! ## One stimulus in one byte (log entry 6) -/

/-- A word zero-extended to a byte is read back. -/
theorem decodeByte_setWidth (w : StimWord) : decodeByte (w.setWidth 8) = .ok (decodeWord w) := by
  have hlt : (w.setWidth 8).toNat < 32 := by
    rw [BitVec.toNat_setWidth_of_le (by decide)]
    exact w.isLt
  rw [decodeByte, if_pos hlt, BitVec.setWidth_setWidth_of_le _ (by decide), BitVec.setWidth_eq]

theorem decodeByte_of_le {b : Byte} (h : 32 ≤ b.toNat) : decodeByte b = .error (.notFiveBits b) :=
  if_neg (Nat.not_lt.mpr h)

theorem decode_cons_of_error {b : Byte} {e : DecodeError} (h : decodeByte b = .error e) (rest : List Byte) :
    decode (b :: rest) = .error e := by
  simp [decode, h]

/-- Settles O4: the first byte's error is the answer. -/
theorem bytesAboveFiveBitsAreRefused : Obligations.BytesAboveFiveBitsAreRefused :=
  fun _ rest h => decode_cons_of_error (decodeByte_of_le h) rest

/-! ## Scripts -/

/-- The per-operation family `WordOwner`, for every operation. -/
theorem wordOwner_statement (i : Instr) : Laws.WordOwner.Statement i := by
  cases i with
  | step => exact Laws.WordOwner.step
  | tick => exact Laws.WordOwner.tick
  | edge ph pm pw => exact Laws.WordOwner.edge ph pm pw
  | reset => exact Laws.WordOwner.reset
  | encode => exact Laws.WordOwner.encode
  | adjH => exact Laws.WordOwner.adjH
  | adjM => exact Laws.WordOwner.adjM
  | chkH ph => exact Laws.WordOwner.chkH ph
  | chkM pm => exact Laws.WordOwner.chkM pm
  | chkW pw => exact Laws.WordOwner.chkW pw
  | gate => exact Laws.WordOwner.gate
  | sleepEntry => exact Laws.WordOwner.sleepEntry
  | wakeup => exact Laws.WordOwner.wakeup
  | walk => exact Laws.WordOwner.walk
  | passEnd => exact Laws.WordOwner.passEnd
  | walkOverrun => exact Laws.WordOwner.walkOverrun

/-- A well-formed stimulus has a word, which decodes to it. -/
theorem exists_encode_of_wf {i : Instr} (h : i.wf = true) : ∃ w, encode i = some w ∧ decodeWord w = i := by
  obtain ⟨hsome, hdecode⟩ := wordOwner_statement i
  obtain ⟨w, hw⟩ := Option.isSome_iff_exists.mp (hsome.trans h)
  exact ⟨w, hw, hdecode w hw⟩

theorem encodeScript_cons {i : Instr} {is : List Instr} {w : StimWord} {bs : List Byte} (hi : encode i = some w)
    (his : encodeScript is = some bs) : encodeScript (i :: is) = some (w.setWidth 8 :: bs) := by
  simp [encodeScript, hi, his]

theorem decodeScript_cons {b : Byte} {bs : List Byte} {i : Instr} {is : List Instr} (hb : decodeByte b = .ok i)
    (hbs : decodeScript bs = .ok is) : decodeScript (b :: bs) = .ok (i :: is) := by
  simp [decodeScript, hb, hbs]

/-- Settles O2, by induction on the script: the first stimulus has a word, and its byte is read back as that
stimulus. -/
theorem scriptsOfStimuliDecodeBack : Obligations.ScriptsOfStimuliDecodeBack := by
  intro is hwf
  induction is with
  | nil => exact ⟨[], rfl, rfl, rfl⟩
  | cons i is ih =>
    obtain ⟨hi, his⟩ := List.forall_mem_cons.mp hwf
    obtain ⟨w, hw, hdecode⟩ := exists_encode_of_wf hi
    obtain ⟨bs, hbs, hlen, hback⟩ := ih his
    have hbyte : decodeByte (w.setWidth 8) = .ok i := (decodeByte_setWidth w).trans (congrArg Except.ok hdecode)
    exact ⟨_, encodeScript_cons hw hbs, congrArg (· + 1) hlen, decodeScript_cons hbyte hback⟩

end Sys2Proof
end

section
/-! The layout of the time word (spec/30_encoding.md rules R70, R71). -/

namespace Sys2Proof.Machine

/-- Shifted hours and in-range minutes share no bit, so XOR is OR. -/
theorem shiftLeft_xor_eq_or_of_lt {n m : Nat} (h : Nat) (hm : m < 2 ^ n) : (h <<< n) ^^^ m = (h <<< n) ||| m := by
  refine Nat.eq_of_testBit_eq fun i => ?_
  rw [Nat.testBit_xor, Nat.testBit_or, Nat.testBit_shiftLeft]
  rcases Nat.lt_or_ge i n with hi | hi
  · simp [Nat.not_le.mpr hi]
  · rw [Nat.testBit_lt_two_pow (hm.trans_le (Nat.pow_le_pow_right (by decide) hi))]
    simp

theorem timeWord_eq_or {m : Nat} (h : Nat) (hm : m < 64) : timeWord h m = BitVec.ofNat 11 ((h <<< 6) ||| m) :=
  congrArg (BitVec.ofNat 11) (shiftLeft_xor_eq_or_of_lt (n := 6) h hm)

/-- Two bit fields side by side are the OR of the numbers, the upper one shifted. -/
theorem ofNat_append_eq_ofNat_or {a n h m : Nat} (hh : h < 2 ^ a) (hm : m < 2 ^ n) :
    BitVec.ofNat a h ++ BitVec.ofNat n m = BitVec.ofNat (a + n) ((h <<< n) ||| m) := by
  have hfit : (h <<< n) ||| m < 2 ^ (a + n) :=
    Nat.or_lt_two_pow (Nat.shiftLeft_lt hh) (hm.trans_le (Nat.pow_le_pow_right (by decide) (Nat.le_add_left n a)))
  refine BitVec.eq_of_toNat_eq ?_
  rw [BitVec.toNat_append, BitVec.toNat_ofNat, BitVec.toNat_ofNat, BitVec.toNat_ofNat, Nat.mod_eq_of_lt hh,
    Nat.mod_eq_of_lt hm, Nat.mod_eq_of_lt hfit]

/-- Settles O13: XOR is OR in range, and that OR is the two fields side by side. -/
theorem timeWordLayoutInRange : Obligations.TimeWordLayoutInRange := by
  intro h m hh hm
  have hor := timeWord_eq_or h hm
  exact ⟨hor.trans (ofNat_append_eq_ofNat_or (a := 5) (n := 6) hh hm).symm, hor⟩

end Sys2Proof.Machine
end

section
/-! The encoder's statements: the refresh, the zero time word, and what an inert position 0 costs (spec/40_encoder.md rules R100 to R106,
spec/70_reset_and_hazards.md rule R247). -/

namespace Sys2Proof.Machine

/-! ## The slots of `Encode` -/

/-- Settles O11: the walk fills the free slots in table order. -/
theorem encodePacksTheMatchesInTableOrder : Obligations.EncodePacksTheMatchesInTableOrder :=
  fun c h m => ⟨matchedPatterns_length_le c _, encodeSlots_eq c h m⟩

/-- Where no entry matches, every slot is zero. -/
theorem encodeSlots_of_no_match {c : Config} {h m : Nat} (hnone : matchedPatterns c (timeWord h m) = []) :
    encodeSlots c h m = List.replicate nSlots sentinel := by
  rw [encodeSlots_eq, hnone]
  rfl

theorem encodeSlots_of_timeWord_zero (c : Config) {h m : Nat} (htw : timeWord h m = 0#11) :
    encodeSlots c h m = List.replicate nSlots sentinel :=
  encodeSlots_of_no_match (by rw [htw, matchedPatterns_zero])

/-- Settles O12: the zero time word matches no entry, and the four pairs are evaluated. -/
theorem zeroTimeWordGivesTheEmptySequence : Obligations.ZeroTimeWordGivesTheEmptySequence :=
  ⟨fun c _ _ => encodeSlots_of_timeWord_zero c, rfl, rfl, rfl, rfl⟩

/-- Behind the matched patterns every slot reads zero, inside the buffer (R103) and beyond it. -/
theorem readSlot_encodeSlots_of_le {c : Config} {h m i : Nat} (hi : (matchedPatterns c (timeWord h m)).length ≤ i) :
    readSlot (cellsFrom 0 (encodeSlots c h m)) i = sentinel := by
  rw [readSlot_store, encodeSlots_eq, List.getD_append_right _ _ _ _ hi, List.getD_eq_getElem?_getD,
    List.getElem?_getD_replicate_default_eq]

theorem exec_encode_of_good {s : State} (hf : s.fault = none) : exec .encode s = .next s.refresh :=
  congrArg Host.Outcome.next (unlessFaulted_of_none State.refresh s hf)

/-- Settles O10: the operation is the refresh, a whole-buffer write. -/
theorem encodeRefreshesTheWholeBuffer : Obligations.EncodeRefreshesTheWholeBuffer := by
  intro s hf
  refine ⟨s.refresh.seq, exec_encode_of_good hf, fun i _ => readSlot_store _ i, fun i hi => ?_⟩
  exact readSlot_encodeSlots_of_le ((matchedPatterns_length_le s.cfg _).trans hi)

/-! ## An inert position 0 (premise `TablePos0Inert`) -/

/-- An entry that cannot match leaves one pattern fewer than there are entries. -/
theorem matchedPatterns_length_lt_of_inert {c : Config} (hinert : TablePos0Inert c) (tw : TimeWord) :
    (matchedPatterns c tw).length < nSlots := by
  have hmiss : ¬ selects c.encTable[0].sel tw = true := by rw [hinert, selects_none]; decide
  have hmem : c.encTable[0] ∈ c.encTable.toList := Vector.mem_toList_iff.2 (Vector.getElem_mem _)
  calc (matchedPatterns c tw).length
      = (c.encTable.toList.filter fun e => selects e.sel tw).length := List.length_map _
    _ < c.encTable.toList.length := List.length_filter_lt_length_iff_exists.2 ⟨_, hmem, hmiss⟩
    _ = nSlots := Vector.length_toList

/-- Settles O15: slot 10 stands behind the at most 10 patterns. -/
theorem inertPositionZeroKeepsTheSentinel : Obligations.InertPositionZeroKeepsTheSentinel := by
  intro c h m hinert
  have hlen := Nat.le_of_lt_succ (matchedPatterns_length_lt_of_inert hinert (timeWord h m))
  exact ⟨hlen, readSlot_encodeSlots_of_le hlen⟩

/-- The mask of a selector is one bit, so the test reads that bit of the time word (R72). -/
theorem selects_some (b : Fin 11) (tw : TimeWord) : selects (some b) tw = tw.getLsbD b.val := by
  have hmask : selMask (some b) = BitVec.twoPow 11 b.val := rfl
  have hbit : BitVec.twoPow 11 b.val ≠ 0#11 := fun h0 => by
    simpa using congrArg (BitVec.getLsbD · b.val) h0
  rw [selects, hmask, BitVec.and_twoPow]
  cases tw.getLsbD b.val <;> simp [hbit]

/-- A selector of another bit, or of none, misses a time word of one bit. -/
theorem selects_twoPow_of_ne {sel : Selector} {b : Fin 11} (h : sel ≠ some b) : selects sel (BitVec.twoPow 11 b.val) = false := by
  cases sel with
  | none => exact selects_none _
  | some a =>
    have hne : b.val ≠ a.val := fun hba => h (congrArg some (Fin.ext hba.symm))
    rw [selects_some, BitVec.getLsbD_twoPow]
    simp [hne]

theorem matchedPatterns_twoPow_of_unselected {c : Config} {b : Fin 11} (hb : ∀ e ∈ c.encTable.toList, e.sel ≠ some b) :
    matchedPatterns c (BitVec.twoPow 11 b.val) = [] := by
  rw [matchedPatterns, List.map_eq_nil_iff, List.filter_eq_nil_iff]
  intro e he
  rw [selects_twoPow_of_ne (hb e he)]
  decide

/-- Pigeonhole: were all 11 bits selected, the entries that select them would be all 11 entries, the inert one among them. -/
theorem exists_unselected_bit_of_inert {c : Config} (hinert : TablePos0Inert c) :
    ∃ b : Fin 11, ∀ e ∈ c.encTable.toList, e.sel ≠ some b := by
  by_contra! hall
  have hat : ∀ b : Fin 11, ∃ k : Fin 11, c.encTable[k].sel = some b := fun b => by
    obtain ⟨e, he, hsel⟩ := hall b
    obtain ⟨k, hk, rfl⟩ := Vector.getElem_of_mem (Vector.mem_toList_iff.1 he)
    exact ⟨⟨k, hk⟩, hsel⟩
  choose pos hpos using hat
  have hinj : Function.Injective pos := fun a b hab => by
    have hsel := hpos a
    rw [hab, hpos b] at hsel
    exact (Option.some.inj hsel).symm
  obtain ⟨b, hb⟩ := Finite.surjective_of_injective hinj 0
  have hsel := hpos b
  rw [hb] at hsel
  exact Option.some_ne_none b (hsel.symm.trans hinert)

theorem ofNat_two_pow (w k : Nat) : BitVec.ofNat w (2 ^ k) = BitVec.twoPow w k :=
  BitVec.eq_of_toNat_eq (by rw [BitVec.toNat_ofNat, BitVec.toNat_twoPow])

/-- Bit `k` of the minutes is bit `k` of the time word (R70). -/
theorem timeWord_minuteBit (k : Nat) : timeWord 0 (2 ^ k) = BitVec.twoPow 11 k := by
  rw [timeWord, Nat.zero_shiftLeft, Nat.zero_xor, ofNat_two_pow]

/-- Bit `k` of the hours is bit `k + 6` of the time word (R70). -/
theorem timeWord_hourBit (k : Nat) : timeWord (2 ^ k) 0 = BitVec.twoPow 11 (k + 6) := by
  rw [timeWord, Nat.xor_zero, Nat.shiftLeft_eq, ← Nat.pow_add, ofNat_two_pow]

/-- Each bit of the time word is set alone at a time of day: five hour bits up to 16, six minute bits up to 32. -/
theorem exists_timeOfDay_of_bit (b : Fin 11) :
    ∃ h m : Nat, h < 24 ∧ m < 60 ∧ (h, m) ≠ (0, 0) ∧ timeWord h m = BitVec.twoPow 11 b.val := by
  rcases Nat.lt_or_ge b.val 6 with hb | hb
  · have hm : 2 ^ b.val ≤ 2 ^ 5 := Nat.pow_le_pow_right (by decide) (by omega)
    exact ⟨0, 2 ^ b.val, by decide, by omega, by simp, timeWord_minuteBit _⟩
  · have hh : 2 ^ (b.val - 6) ≤ 2 ^ 4 := Nat.pow_le_pow_right (by decide) (by omega)
    refine ⟨2 ^ (b.val - 6), 0, by omega, by decide, by simp, ?_⟩
    rw [timeWord_hourBit, Nat.sub_add_cancel hb]

/-- Settles O16: the time at which an unselected bit is set alone shows the empty sequence of midnight. -/
theorem displayDoesNotDetermineTheTime : Obligations.DisplayDoesNotDetermineTheTime := by
  intro c hinert
  obtain ⟨b, hb⟩ := exists_unselected_bit_of_inert hinert
  obtain ⟨h, m, hh, hm, hne, htw⟩ := exists_timeOfDay_of_bit b
  refine ⟨h, m, 0, 0, hh, hm, by decide, by decide, hne, ?_⟩
  calc encodeSlots c h m
      = List.replicate nSlots sentinel := encodeSlots_of_no_match (by rw [htw, matchedPatterns_twoPow_of_unselected hb])
    _ = encodeSlots c 0 0 := (encodeSlots_of_timeWord_zero c rfl).symm

end Sys2Proof.Machine
end

section
/-! The clock family as equations: each rollover check below its modulus and at it, the widths' room for an in-range counter, and what
`TICK`, `ADJ_H` and `ADJ_M` answer where no fault is set (spec/41_clock.md rules R120 to R125). -/

namespace Sys2Proof.Machine

variable {s : State}

/-! ## Increments of in-range counters -/

theorem incW_le (W x : Nat) : incW W x ≤ x + 1 := Nat.mod_le _ _

theorem incW_wSec_of_lt {c : Config} (hw : c.widthsOk = true) {x : Nat} (h : x < 60) : incW c.wSec x = x + 1 := by
  obtain ⟨-, -, hsec, -, -⟩ := widthsOk_pow hw
  exact incW_of_lt _ _ (by omega)

theorem incW_wMin_of_lt {c : Config} (hw : c.widthsOk = true) {x : Nat} (h : x < 60) : incW c.wMin x = x + 1 := by
  obtain ⟨-, hmin, -, -, -⟩ := widthsOk_pow hw
  exact incW_of_lt _ _ (by omega)

theorem incW_wHours_of_lt {c : Config} (hw : c.widthsOk = true) {x : Nat} (h : x < 24) : incW c.wHours x = x + 1 := by
  obtain ⟨hhours, -, -, -, -⟩ := widthsOk_pow hw
  exact incW_of_lt _ _ (by omega)

/-! ## The three checks -/

theorem rollSeconds_of_lt (h : s.seconds < secMod) : rollSeconds s = s := by
  rw [rollSeconds, roll_of_lt _ _ _ h, if_neg Bool.false_ne_true]

theorem rollSeconds_of_eq (h : s.seconds = secMod) : rollSeconds s = ({ s with seconds := 0 }).incMinutes.refresh := by
  rw [rollSeconds, h, roll_self, if_pos rfl]

theorem rollMinutes_of_lt (h : s.minutes < minMod) : rollMinutes s = s := by
  rw [rollMinutes, roll_of_lt _ _ _ h, if_neg Bool.false_ne_true]

theorem rollMinutes_of_eq (h : s.minutes = minMod) : rollMinutes s = ({ s with minutes := 0 }).incHours := by
  rw [rollMinutes, h, roll_self, if_pos rfl]

theorem rollHours_of_lt (h : s.hours < hourMod) : rollHours s = s := by
  rw [rollHours, roll_of_lt _ _ _ h, if_neg Bool.false_ne_true]

theorem rollHours_of_eq (h : s.hours = hourMod) : rollHours s = { s with hours := 0 } := by
  rw [rollHours, h, roll_self, if_pos rfl]

/-- With minutes and hours in range the two checks after the first do nothing. -/
theorem rollHours_rollMinutes_of_lt (hm : s.minutes < minMod) (hh : s.hours < hourMod) : rollHours (rollMinutes s) = s := by
  rw [rollMinutes_of_lt hm, rollHours_of_lt hh]

/-! ## The first check of a tick, from an in-range second -/

theorem tickCount_seconds_of_lt (hw : s.cfg.widthsOk = true) (h : s.seconds < 60) :
    (tickCount s).seconds = s.seconds + 1 := incW_wSec_of_lt hw h

/-- Inside the minute the first check does not fire: nothing is refreshed, and the two later checks act on the minutes and hours as
they stand (R122, R125). -/
theorem tickBody_of_seconds_lt (hw : s.cfg.widthsOk = true) (h : s.seconds < 59) :
    tickBody s = rollHours (rollMinutes (tickCount s)) := by
  have hsec : (tickCount s).seconds < secMod := by
    rw [tickCount_seconds_of_lt hw (Nat.lt_succ_of_lt h)]
    exact Nat.succ_lt_succ h
  rw [tickBody, rollSeconds_of_lt hsec]

/-- The last second of the minute fires the first check: one minute more, and the refresh before the later checks (R122). -/
theorem tickBody_of_seconds_eq (hw : s.cfg.widthsOk = true) (h : s.seconds = 59) :
    tickBody s = rollHours (rollMinutes ({ tickCount s with seconds := 0 }).incMinutes.refresh) := by
  have hsec : (tickCount s).seconds = secMod := by
    rw [tickCount_seconds_of_lt hw (by omega), h]
  rw [tickBody, rollSeconds_of_eq hsec]

/-! ## The operations where no fault is set -/

theorem exec_tick_of_good (hf : s.fault = none) : exec .tick s = .next (tickBody s).wake :=
  congrArg Host.Outcome.next (serveHandler_of_none tickBody s hf)

theorem exec_adjH_of_good (hf : s.fault = none) : exec .adjH s = .next (adjustHours s) :=
  congrArg Host.Outcome.next (unlessFaulted_of_none adjustHours s hf)

theorem exec_adjM_of_good (hf : s.fault = none) : exec .adjM s = .next (adjustMinutes s) :=
  congrArg Host.Outcome.next (unlessFaulted_of_none adjustMinutes s hf)

/-- Settles O17: the closed forms of the three checks, one after the other, and the wake-up. -/
theorem tickAdvancesTheTimeOfDay : Obligations.TickAdvancesTheTimeOfDay := by
  refine fun s => ⟨fun hf => ?good, fun hf => ?faulted⟩
  case good =>
    rw [exec_tick_of_good hf, wake_eq, tickBody, rollHours_eq, rollMinutes_eq, rollSeconds_eq]
    refine congrArg Host.Outcome.next (State.ext rfl rfl rfl rfl rfl rfl ?seq rfl rfl rfl rfl rfl rfl)
    exact ite_congr rfl (fun h => by rw [if_pos h]; rfl) fun _ => rfl
  case faulted => exact congrArg Host.Outcome.next (serveHandler_of_fault tickBody s hf)

/-- Settles O23: the operation is the increment and the refresh on the new hours. -/
theorem adjustHoursNeverWrapsAtTwentyFour : Obligations.AdjustHoursNeverWrapsAtTwentyFour :=
  fun _ hf => exec_adjH_of_good hf

/-- Settles O24: the operation is the increment and the refresh on the new minutes. -/
theorem adjustMinutesNeverCarries : Obligations.AdjustMinutesNeverCarries :=
  fun _ hf => exec_adjM_of_good hf

/-! ## All three checks in one tick -/

/-- At 23:59:59 each check hands the next one its modulus; the encoder has run on (23, 60) before the second (R122, R125). -/
theorem tickBody_of_last_second (hw : s.cfg.widthsOk = true) (hh : s.hours = 23) (hm : s.minutes = 59) (hsec : s.seconds = 59) :
    tickBody s = { s with
      hours := 0
      minutes := 0
      seconds := 0
      inact := incW s.cfg.wInact s.inact
      seq := cellsFrom 0 (encodeSlots s.cfg 23 60) } := by
  have hmin : incW s.cfg.wMin s.minutes = 60 := by rw [incW_wMin_of_lt hw (by omega), hm]
  have hhour : incW s.cfg.wHours s.hours = 24 := by rw [incW_wHours_of_lt hw (by omega), hh]
  have hshown : encodeSlots s.cfg 23 60 = encodeSlots s.cfg s.hours (incW s.cfg.wMin s.minutes) := by rw [hh, hmin]
  rw [tickBody_of_seconds_eq hw hsec, rollMinutes_of_eq hmin, rollHours_of_eq hhour, hshown]
  rfl

/-- Settles O18: the tick body at the last second of the day, then the wake-up. -/
theorem fullRolloverKeepsTheStaleDisplay : Obligations.FullRolloverKeepsTheStaleDisplay := by
  intro s hw hf hh hm hsec
  rw [exec_tick_of_good hf, wake_eq, tickBody_of_last_second hw hh hm hsec]
  rfl

/-! ## Values an adjust left out of range (R125) -/

/-- Hour 24 is cleared by the third check alone. -/
theorem exec_tick_of_hour_24 (hw : s.cfg.widthsOk = true) (hf : s.fault = none) (hsec : s.seconds < 59) (hm : s.minutes < 60)
    (hh : s.hours = 24) : exec .tick s = .next ({ tickCount s with hours := 0 } : State).wake := by
  rw [exec_tick_of_good hf, tickBody_of_seconds_lt hw hsec, rollMinutes_of_lt (s := tickCount s) hm,
    rollHours_of_eq (s := tickCount s) hh]

/-- Minute 60 is cleared by the second check, which carries; short of 23 the third does nothing. -/
theorem exec_tick_of_minute_60 (hw : s.cfg.widthsOk = true) (hf : s.fault = none) (hsec : s.seconds < 59) (hm : s.minutes = 60)
    (hh : s.hours < 23) : exec .tick s = .next ({ tickCount s with minutes := 0 } : State).incHours.wake := by
  have hcarry : incW s.cfg.wHours s.hours < hourMod := (incW_le _ _).trans_lt (Nat.succ_lt_succ hh)
  rw [exec_tick_of_good hf, tickBody_of_seconds_lt hw hsec, rollMinutes_of_eq (s := tickCount s) hm,
    rollHours_of_lt hcarry]

/-- Settles O25: the adjust leaves hour 24, which the next tick clears without a refresh. -/
theorem hourTwentyFourIsRepairedByTheNextTick : Obligations.HourTwentyFourIsRepairedByTheNextTick := by
  intro s hw hf hh hm hsec
  have hhour : (adjustHours s).hours = 24 := (incW_wHours_of_lt hw (by omega)).trans (by rw [hh])
  have hsec' : (tickCount (adjustHours s)).seconds = s.seconds + 1 := incW_wSec_of_lt hw (Nat.lt_succ_of_lt hsec)
  refine ⟨adjustHours s, _, exec_adjH_of_good hf, exec_tick_of_hour_24 hw hf hsec hm hhour, hhour, ?display,
    by simp, by simp, by simpa using hsec', by simp⟩
  case display => exact congrArg (fun h => cellsFrom 0 (encodeSlots s.cfg h s.minutes)) hhour

/-- Settles O26: the adjust leaves minute 60, which the next tick clears and carries without a refresh. -/
theorem minuteSixtyCarriesAtTheNextTick : Obligations.MinuteSixtyCarriesAtTheNextTick := by
  intro s hw hf hm hh hsec
  have hmin : (adjustMinutes s).minutes = 60 := (incW_wMin_of_lt hw (by omega)).trans (by rw [hm])
  have hcarry : incW s.cfg.wHours s.hours = s.hours + 1 := incW_wHours_of_lt hw (Nat.lt_succ_of_lt hh)
  have hsec' : (tickCount (adjustMinutes s)).seconds = s.seconds + 1 := incW_wSec_of_lt hw (Nat.lt_succ_of_lt hsec)
  refine ⟨adjustMinutes s, _, exec_adjM_of_good hf, exec_tick_of_minute_60 hw hf hsec hmin hh, hmin, rfl, ?display,
    by simp, by simpa using hcarry, by simpa using hsec', by simp⟩
  case display => exact congrArg (fun m => cellsFrom 0 (encodeSlots s.cfg s.hours m)) hmin

end Sys2Proof.Machine
end

section
/-! The two meanings of "reaches" agree while no check sees a value beyond its modulus (spec/41_clock.md rule R121): each phase of `TICK`
commutes with a change of `ROLL_CMP`. -/

namespace Sys2Proof.Machine

variable {s : State}

/-- The same state under another `ROLL_CMP`. -/
def State.withRollCmp (cmp : RollCmp) (s : State) : State := { s with cfg := { s.cfg with rollCmp := cmp } }

/-- Up to the modulus the comparison does not matter. -/
theorem roll_congr_of_le {x N : Nat} (h : x ≤ N) (c c' : RollCmp) : roll c x N = roll c' x N := by
  rcases Nat.lt_or_eq_of_le h with hlt | rfl
  · rw [roll_of_lt c _ _ hlt, roll_of_lt c' _ _ hlt]
  · rw [roll_self, roll_self]

theorem rollSeconds_withRollCmp (cmp : RollCmp) (h : s.seconds ≤ secMod) :
    rollSeconds (s.withRollCmp cmp) = (rollSeconds s).withRollCmp cmp := by
  have hroll : roll cmp s.seconds secMod = roll s.cfg.rollCmp s.seconds secMod := roll_congr_of_le h _ _
  simp only [rollSeconds_eq, State.withRollCmp, hroll]
  rfl

theorem rollMinutes_withRollCmp (cmp : RollCmp) (h : s.minutes ≤ minMod) :
    rollMinutes (s.withRollCmp cmp) = (rollMinutes s).withRollCmp cmp := by
  have hroll : roll cmp s.minutes minMod = roll s.cfg.rollCmp s.minutes minMod := roll_congr_of_le h _ _
  simp only [rollMinutes_eq, State.withRollCmp, hroll]

theorem rollHours_withRollCmp (cmp : RollCmp) (h : s.hours ≤ hourMod) :
    rollHours (s.withRollCmp cmp) = (rollHours s).withRollCmp cmp := by
  have hroll : roll cmp s.hours hourMod = roll s.cfg.rollCmp s.hours hourMod := roll_congr_of_le h _ _
  simp only [rollHours_eq, State.withRollCmp, hroll]

/-- The first check adds at most one minute. -/
theorem rollSeconds_minutes_le (s : State) : (rollSeconds s).minutes ≤ s.minutes + 1 := by
  unfold rollSeconds
  split
  · exact incW_le _ _
  · exact Nat.le_succ _

/-- The second check adds at most one hour. -/
theorem rollMinutes_hours_le (s : State) : (rollMinutes s).hours ≤ s.hours + 1 := by
  unfold rollMinutes
  split
  · exact incW_le _ _
  · exact Nat.le_succ _

/-- From an in-range time each check sees its modulus at most: an increment before it adds at most one. -/
theorem tickBody_withRollCmp (cmp : RollCmp) (hsec : s.seconds ≤ 59) (hmin : s.minutes ≤ 59) (hhr : s.hours ≤ 23) :
    tickBody (s.withRollCmp cmp) = (tickBody s).withRollCmp cmp := by
  have hs : (tickCount s).seconds ≤ secMod := (incW_le _ _).trans (Nat.succ_le_succ hsec)
  have hm : (rollSeconds (tickCount s)).minutes ≤ minMod := (rollSeconds_minutes_le _).trans (Nat.succ_le_succ hmin)
  have hh : (rollMinutes (rollSeconds (tickCount s))).hours ≤ hourMod :=
    (rollMinutes_hours_le _).trans (Nat.succ_le_succ (by simpa using hhr))
  calc tickBody (s.withRollCmp cmp)
      = rollHours (rollMinutes (rollSeconds ((tickCount s).withRollCmp cmp))) := rfl
    _ = (tickBody s).withRollCmp cmp := by
      rw [rollSeconds_withRollCmp cmp hs, rollMinutes_withRollCmp cmp hm, rollHours_withRollCmp cmp hh, tickBody]

theorem wake_withRollCmp (cmp : RollCmp) (s : State) : (s.withRollCmp cmp).wake = s.wake.withRollCmp cmp := by
  rw [wake_eq, wake_eq]
  rfl

/-- Settles O19: the tick body and the wake-up commute with the change of comparison, and a fault stops both ticks. -/
theorem rolloverComparisonsAgreeInRange : Obligations.RolloverComparisonsAgreeInRange := by
  intro s cmp hsec hmin hhr
  by_cases hf : s.fault = none
  · refine ⟨_, exec_tick_of_good hf, (exec_tick_of_good (s := s.withRollCmp cmp) hf).trans (congrArg Host.Outcome.next ?_)⟩
    rw [tickBody_withRollCmp cmp hsec hmin hhr]
    exact wake_withRollCmp cmp _
  · exact ⟨s, congrArg Host.Outcome.next (serveHandler_of_fault tickBody s hf),
      congrArg Host.Outcome.next (serveHandler_of_fault tickBody (s.withRollCmp cmp) hf)⟩

end Sys2Proof.Machine
end

section
/-! Runs of ticks served as steps (spec/41_clock.md rules R120, R122, log entry 4): inside a minute they only count, and the tick that
ends it refreshes once. -/

namespace Sys2Proof.Machine

variable {s : State} {rest : List StimWord}

/-- A step that finds a tick lined up runs the tick's body and the wake-up. -/
theorem step_of_tick (hw : s.cfg.widthsOk = true) (hf : s.fault = none) (e : s.stims = 0x0F#5 :: rest) :
    step s = .next (tickBody { s with stims := rest }).wake := by
  rw [step_of_stims hw e, decodeWord_of_kind_one rfl]
  exact exec_tick_of_good hf

/-- The state after `n` ticks that stay inside a minute, with `rest` still lined up. -/
def ticked (n : Nat) (rest : List StimWord) (s : State) : State :=
  { s with
    seconds := s.seconds + n
    inact := (s.inact + n) % 2 ^ s.cfg.wInact
    mpc := if n ≠ 0 ∧ s.mpc = .susp then .gate else s.mpc
    stims := rest }

/-- One tick inside the minute, at a time of day in range. -/
theorem step_tick_inside_minute (hw : s.cfg.widthsOk = true) (hf : s.fault = none) (hsec : s.seconds < 59) (hmin : s.minutes < 60)
    (hhr : s.hours < 24) (e : s.stims = 0x0F#5 :: rest) : step s = .next (ticked 1 rest s) := by
  have htick : tickBody { s with stims := rest } = tickCount { s with stims := rest } :=
    (tickBody_of_seconds_lt (s := { s with stims := rest }) hw hsec).trans (rollHours_rollMinutes_of_lt hmin hhr)
  rw [step_of_tick hw hf e, htick, wake_eq, tickCount, incW_wSec_of_lt hw (Nat.lt_succ_of_lt hsec)]
  simp [ticked, incW]

theorem ticked_zero (h : s.inact < 2 ^ s.cfg.wInact) (e : s.stims = rest) : ticked 0 rest s = s := by
  subst e
  simp [ticked, Nat.mod_eq_of_lt h]

theorem ticked_mpc_ne_susp {n : Nat} (hn : n ≠ 0) (rest : List StimWord) (s : State) : (ticked n rest s).mpc ≠ .susp := by
  by_cases h : s.mpc = .susp <;> simp [ticked, hn, h]

/-- The count of ticks adds up; what the first one woke stays awake. -/
theorem ticked_ticked_one (n : Nat) (ws : List StimWord) (s : State) : ticked n rest (ticked 1 ws s) = ticked (n + 1) rest s := by
  refine State.ext rfl rfl rfl ?seconds rfl ?inact rfl ?mpc rfl rfl rfl rfl rfl
  case seconds => exact Nat.add_right_comm s.seconds 1 n
  case inact =>
    show ((s.inact + 1) % 2 ^ s.cfg.wInact + n) % 2 ^ s.cfg.wInact = (s.inact + (n + 1)) % 2 ^ s.cfg.wInact
    rw [Nat.mod_add_mod, Nat.add_right_comm, Nat.add_assoc]
  case mpc =>
    show (if n ≠ 0 ∧ (ticked 1 ws s).mpc = .susp then Mpc.gate else (ticked 1 ws s).mpc) = (ticked (n + 1) rest s).mpc
    rw [if_neg fun h => ticked_mpc_ne_susp one_ne_zero ws s h.2]
    simp [ticked]

/-- Settles O20, by induction on the number of ticks, the state generalised: each one leaves the next its hypotheses. -/
theorem ticksInsideAMinuteOnlyCount : Obligations.TicksInsideAMinuteOnlyCount := by
  intro n
  induction n with
  | zero => exact fun s rest _ _ _ _ _ hin e => congrArg Host.Outcome.next (ticked_zero hin e).symm
  | succ n ih =>
    intro s rest hw hf hsec hmin hhr _ e
    have hstep := step_tick_inside_minute hw hf (by omega) hmin hhr e
    have hsec' : (ticked 1 (secondsWords n ++ rest) s).seconds + n < 60 := by
      show s.seconds + 1 + n < 60
      omega
    calc runSteps (n + 1) s
        = runSteps n (ticked 1 (secondsWords n ++ rest) s) := runSteps_succ hstep n
      _ = .next (ticked n rest (ticked 1 (secondsWords n ++ rest) s)) :=
        ih _ rest hw hf hsec' hmin hhr (incW_lt _ _) rfl
      _ = .next (ticked (n + 1) rest s) := by rw [ticked_ticked_one]

/-- The tick that ends a minute, where neither the minutes nor the hours reach their modulus. -/
theorem tickBody_turns_minute (hw : s.cfg.widthsOk = true) (hsec : s.seconds = 59) (hmin : s.minutes < 59) (hhr : s.hours < 24) :
    tickBody s = { s with
      seconds := 0
      minutes := s.minutes + 1
      inact := incW s.cfg.wInact s.inact
      seq := cellsFrom 0 (encodeSlots s.cfg s.hours (s.minutes + 1)) } := by
  have hnext : incW s.cfg.wMin s.minutes = s.minutes + 1 := incW_wMin_of_lt hw (by omega)
  have hlt : incW s.cfg.wMin s.minutes < minMod := hnext.trans_lt (Nat.succ_lt_succ hmin)
  rw [tickBody_of_seconds_eq hw hsec, rollHours_rollMinutes_of_lt, ← hnext]
  · rfl
  · exact hlt
  · exact hhr

/-- Settles O21: fifty-nine ticks that only count, then the one that turns the minute. -/
theorem sixtyTicksTurnOneMinute : Obligations.SixtyTicksTurnOneMinute := by
  intro s rest hw hf hsec hmin hhr hin e
  have h59 : runSteps 59 s = .next (ticked 59 (0x0F#5 :: rest) s) :=
    ticksInsideAMinuteOnlyCount 59 s (0x0F#5 :: rest) hw hf (by omega) (by omega) hhr hin e
  have hsec59 : (ticked 59 (0x0F#5 :: rest) s).seconds = 59 := by
    show s.seconds + 59 = 59
    omega
  refine ⟨⟨_, h59, rfl, hsec59⟩, ?_⟩
  have hlast : step (ticked 59 (0x0F#5 :: rest) s) = .next (tickBody (ticked 59 rest s)).wake := step_of_tick hw hf rfl
  have hturn := tickBody_turns_minute (s := ticked 59 rest s) hw hsec59 hmin hhr
  have hawake : (tickBody (ticked 59 rest s)).mpc ≠ .susp := by
    rw [tickBody_mpc]
    exact ticked_mpc_ne_susp (by decide) rest s
  rw [wake_of_ne _ hawake, hturn] at hlast
  rw [runSteps_add h59 1, runSteps_succ hlast 0, runSteps_zero]
  simp [ticked, incW, hsec]

end Sys2Proof.Machine
end

section
/-! The three checks as operations of their own (spec/42_input_debounce.md rules R141 to R143), and the gate a wake-up opens
(spec/43_power.md rule R161). -/

namespace Sys2Proof.Machine

variable {s : State}

/-! ## The operations where no fault is set -/

theorem exec_chkH_of_good (hf : s.fault = none) (l : Level) : exec (.chkH l) s = .next (checkHours l s) :=
  congrArg Host.Outcome.next (unlessFaulted_of_none (checkHours l) s hf)

theorem exec_chkM_of_good (hf : s.fault = none) (l : Level) : exec (.chkM l) s = .next (checkMinutes l s) :=
  congrArg Host.Outcome.next (unlessFaulted_of_none (checkMinutes l) s hf)

theorem exec_chkW_of_good (hf : s.fault = none) (l : Level) : exec (.chkW l) s = .next (checkWake l s) :=
  congrArg Host.Outcome.next (unlessFaulted_of_none (checkWake l) s hf)

theorem exec_edge_of_good (hf : s.fault = none) (ph pm pw : Level) :
    exec (.edge ph pm pw) s = .next (edgeBody ph pm pw s).wake :=
  congrArg Host.Outcome.next (serveHandler_of_none (edgeBody ph pm pw) s hf)

/-! ## A released line, and a pressed one at the threshold -/

theorem accepts_low_of_ready {d : Nat} (h : debThreshold ≤ d) : accepts .low d = true := (accepts_iff _ _).2 ⟨rfl, h⟩

theorem checkHours_high (s : State) : checkHours .high s = s := rfl

theorem checkMinutes_high (s : State) : checkMinutes .high s = s := rfl

theorem checkWake_high (s : State) : checkWake .high s = s := rfl

theorem checkHours_low_of_ready (h : debThreshold ≤ s.deb) : checkHours .low s = (adjustHours s).setDeb 0 :=
  if_pos (accepts_low_of_ready h)

theorem checkMinutes_low_of_ready (h : debThreshold ≤ s.deb) : checkMinutes .low s = (adjustMinutes s).setDeb 0 :=
  if_pos (accepts_low_of_ready h)

theorem checkWake_low_of_ready (h : debThreshold ≤ s.deb) : checkWake .low s = (s.setInact 0).setDeb 0 :=
  if_pos (accepts_low_of_ready h)

/-- Settles O27: the check's test is R141's condition. -/
theorem hoursCheckAcceptsAPressedLine : Obligations.HoursCheckAcceptsAPressedLine := by
  intro s ph hf
  rw [exec_chkH_of_good hf]
  exact congrArg Host.Outcome.next (if_congr (accepts_iff ph s.deb) rfl rfl)

/-- Settles O28: the check's test is R142's condition. -/
theorem minutesCheckAcceptsAPressedLine : Obligations.MinutesCheckAcceptsAPressedLine := by
  intro s pm hf
  rw [exec_chkM_of_good hf]
  exact congrArg Host.Outcome.next (if_congr (accepts_iff pm s.deb) rfl rfl)

/-! ## A line alone -/

theorem checksSeq_hours_alone (ph : Level) (s : State) : checksSeq ph .high .high s = checkHours ph s := rfl

theorem checksSeq_minutes_alone (pm : Level) (s : State) : checksSeq .high pm .high s = checkMinutes pm s := rfl

theorem checksSeq_wake_alone (pw : Level) (s : State) : checksSeq .high .high pw s = checkWake pw s := rfl

theorem checksPar_hours_alone (ph : Level) (s : State) : checksPar ph .high .high s = checkHours ph s := by
  rw [checksPar_eq, checkHours_eq]
  cases accepts ph s.deb <;> rfl

theorem checksPar_minutes_alone (pm : Level) (s : State) : checksPar .high pm .high s = checkMinutes pm s := by
  rw [checksPar_eq, checkMinutes_eq]
  cases accepts pm s.deb <;> rfl

theorem checksPar_wake_alone (pw : Level) (s : State) : checksPar .high .high pw s = checkWake pw s := by
  rw [checksPar_eq, checkWake_eq]
  rfl

/-- With both adjust lines released an `EDGE` is the wake check, under either composition. -/
theorem edgeBody_wake_alone (pw : Level) (s : State) : edgeBody .high .high pw s = checkWake pw s := by
  cases hev : s.cfg.edgeEval with
  | seq => rw [edgeBody_of_seq hev, checksSeq_wake_alone]
  | par => rw [edgeBody_of_par hev, checksPar_wake_alone]

/-! ## From the wake line to the open gate -/

theorem gateStep_of_lt (h : s.inact < sleepThreshold) : gateStep s = s.setMpc (.walk 0) :=
  if_neg (by rwa [sleepDue_iff, Nat.not_le])

theorem exec_step_of_gate (hf : s.fault = none) (hp : s.mpc = .gate) : exec .step s = .next (gateStep s) :=
  congrArg Host.Outcome.next ((unlessFaulted_of_none mainStep s hf).trans (mainStep_of_gate hp))

/-- Below the inactivity threshold `STEP` opens the gate. -/
theorem exec_step_of_open_gate (hf : s.fault = none) (hp : s.mpc = .gate) (hi : s.inact < sleepThreshold) :
    exec .step s = .next (s.setMpc (.walk 0)) := by
  rw [exec_step_of_gate hf hp, gateStep_of_lt hi]

/-- An accepted wake line at `SUSP` ends the suspension with both counters cleared (R143, R163). -/
theorem exec_edge_wake_of_susp (hf : s.fault = none) (hd : debThreshold ≤ s.deb) (hp : s.mpc = .susp) :
    exec (.edge .high .high .low) s = .next (((s.setInact 0).setDeb 0).setMpc .gate) := by
  rw [exec_edge_of_good hf, edgeBody_wake_alone, checkWake_low_of_ready hd, wake_of_susp]
  exact hp

/-- Settles O29: the check's test is R143's condition; after the accepted `EDGE` the gate finds `inact` at 0. -/
theorem wakeCheckResetsInactivity : Obligations.WakeCheckResetsInactivity := by
  refine fun s pw hf => ⟨?check, fun _ hd hp => ⟨_, exec_edge_wake_of_susp hf hd hp, ?gate⟩⟩
  case check =>
    rw [exec_chkW_of_good hf]
    exact congrArg Host.Outcome.next (if_congr (accepts_iff pw s.deb) rfl rfl)
  case gate =>
    exact exec_step_of_open_gate (s := ((s.setInact 0).setDeb 0).setMpc .gate) hf rfl (Nat.zero_lt_succ _)

end Sys2Proof.Machine
end

section
/-! What an `EDGE` writes, under each composition (spec/42_input_debounce.md rules R140, R144, R145). -/

namespace Sys2Proof.Machine

variable {s : State} {ph pm pw : Level}

/-! ## At and below the threshold -/

/-- Before ten passes an `EDGE` changes nothing, whatever the lines and the composition. -/
theorem edgeBody_of_lt (h : s.deb < debThreshold) (ph pm pw : Level) : edgeBody ph pm pw s = s :=
  (edgeBody_cases ph pm pw s).resolve_right fun acc => Nat.not_le.2 h acc.ready

/-- Under `SEQ` a low hours line comes first: the other checks find `deb` cleared. -/
theorem checksSeq_hours_first (h : debThreshold ≤ s.deb) (pm pw : Level) :
    checksSeq .low pm pw s = (adjustHours s).setDeb 0 := by
  rw [checksSeq, checkHours_low_of_ready h, checkMinutes_of_deb_zero rfl, checkWake_of_deb_zero rfl]

/-- Under `SEQ` a low minutes line comes before the wake line. -/
theorem checksSeq_minutes_first (h : debThreshold ≤ s.deb) (pw : Level) :
    checksSeq .high .low pw s = (adjustMinutes s).setDeb 0 := by
  rw [checksSeq, checkHours_high, checkMinutes_low_of_ready h, checkWake_of_deb_zero rfl]

/-- Under `PAR` at the threshold a line is accepted exactly when it is low. -/
theorem checksPar_of_ready (h : debThreshold ≤ s.deb) (ph pm pw : Level) :
    checksPar ph pm pw s =
      { s with
        hours := if ph = .low then incW s.cfg.wHours s.hours else s.hours
        minutes := if pm = .low then incW s.cfg.wMin s.minutes else s.minutes
        seq := if ph = .low ∨ pm = .low then
            cellsFrom 0 (encodeSlots s.cfg (if ph = .low then incW s.cfg.wHours s.hours else s.hours)
              (if pm = .low then incW s.cfg.wMin s.minutes else s.minutes)) else s.seq
        inact := if pw = .low then 0 else s.inact
        deb := if ph = .low ∨ pm = .low ∨ pw = .low then 0 else s.deb } := by
  have haccepts (l : Level) : accepts l s.deb = decide (l = .low) := by simp [accepts_eq, h]
  simp only [checksPar_eq, haccepts, Bool.or_eq_true, decide_eq_true_eq, or_assoc]

/-! ## The whole next state -/

/-- Settles O30: below the threshold nothing but the wake-up, at it the first low line's check. -/
theorem sequentialChecksAcceptTheFirstPressedLine : Obligations.SequentialChecksAcceptTheFirstPressedLine := by
  intro s ph pm pw hf hev woken
  rw [exec_edge_of_good hf, wake_eq]
  by_cases hd : s.deb < 10
  · rw [edgeBody_of_lt hd, if_pos hd]
  · have ready : debThreshold ≤ s.deb := Nat.not_lt.1 hd
    rw [edgeBody_of_seq hev, if_neg hd]
    match ph, pm, pw with
    | .low, pm, pw => rw [checksSeq_hours_first ready]; rfl
    | .high, .low, pw => rw [checksSeq_minutes_first ready]; rfl
    | .high, .high, .low => rw [checksSeq_wake_alone, checkWake_low_of_ready ready]; rfl
    | .high, .high, .high => rfl

/-- Settles O31: below the threshold nothing but the wake-up, at it the closed form of the parallel checks. -/
theorem parallelChecksAcceptEveryPressedLine : Obligations.ParallelChecksAcceptEveryPressedLine := by
  intro s ph pm pw hf hev woken h m
  rw [exec_edge_of_good hf, wake_eq]
  by_cases hd : s.deb < 10
  · rw [edgeBody_of_lt hd, if_pos hd]
  · rw [edgeBody_of_par hev, checksPar_of_ready (Nat.not_lt.1 hd), if_neg hd]
    rfl

/-! ## The second of two -/

/-- At the threshold a low line clears the debounce counter, under either composition. -/
theorem edgeBody_deb_of_ready (h : debThreshold ≤ s.deb) (hlow : ph = .low ∨ pm = .low ∨ pw = .low) :
    (edgeBody ph pm pw s).deb = 0 := by
  cases hev : s.cfg.edgeEval with
  | seq =>
    rw [edgeBody_of_seq hev]
    match ph, pm, pw with
    | .low, pm, pw => rw [checksSeq_hours_first h]; rfl
    | .high, .low, pw => rw [checksSeq_minutes_first h]; rfl
    | .high, .high, .low => rw [checksSeq_wake_alone, checkWake_low_of_ready h]; rfl
    | .high, .high, .high => simp at hlow
  | par =>
    rw [edgeBody_of_par hev, checksPar_of_ready h]
    exact if_pos hlow

/-- After the return from a handler the block is not suspended (R163, R206). -/
theorem wake_mpc_ne_susp (s : State) : s.wake.mpc ≠ .susp := by
  rcases wake_cases s with ⟨-, e⟩ | ⟨h, e⟩
  · rw [e]
    exact Mpc.noConfusion
  · rwa [e]

/-- Awake and before ten passes, an `EDGE` changes nothing at all. -/
theorem exec_edge_of_lt (hf : s.fault = none) (hd : s.deb < debThreshold) (hp : s.mpc ≠ .susp) (ph pm pw : Level) :
    exec (.edge ph pm pw) s = .next s := by
  rw [exec_edge_of_good hf, edgeBody_of_lt hd, wake_of_ne s hp]

/-- Settles O33: the first `EDGE` clears `deb` and leaves the block awake, where the next finds nothing to accept. -/
theorem secondEdgeBeforeAnyPassIsIgnored : Obligations.SecondEdgeBeforeAnyPassIsIgnored := by
  intro s ph pm pw hf hd hlow
  have hdeb : (edgeBody ph pm pw s).wake.deb = 0 := by rw [State.wake_deb, edgeBody_deb_of_ready hd hlow]
  have hgood : (edgeBody ph pm pw s).wake.fault = none := by simpa using hf
  exact ⟨_, exec_edge_of_good hf ph pm pw, hdeb,
    exec_edge_of_lt hgood (hdeb.trans_lt (by decide)) (wake_mpc_ne_susp _)⟩

end Sys2Proof.Machine
end

section
/-! The frame of `EDGE` (spec/42_input_debounce.md rules R140, R146): each counter's line has to be low at the threshold for the counter to
be written. -/

namespace Sys2Proof.Machine

variable {s : State} {ph pm pw : Level}

theorem edgeBody_high_hours (pm pw : Level) (s : State) : (edgeBody .high pm pw s).hours = s.hours := by
  cases hev : s.cfg.edgeEval with
  | seq => rw [edgeBody_of_seq hev, checksSeq, checkWake_hours, checkMinutes_hours, checkHours_high]
  | par => rw [edgeBody_of_par hev, checksPar_eq]; rfl

theorem edgeBody_high_minutes (ph pw : Level) (s : State) : (edgeBody ph .high pw s).minutes = s.minutes := by
  cases hev : s.cfg.edgeEval with
  | seq => rw [edgeBody_of_seq hev, checksSeq, checkWake_minutes, checkMinutes_high, checkHours_minutes]
  | par => rw [edgeBody_of_par hev, checksPar_eq]; rfl

theorem edgeBody_high_inact (ph pm : Level) (s : State) : (edgeBody ph pm .high s).inact = s.inact := by
  rcases edgeBody_cases ph pm .high s with e | acc
  · rw [e]
  · exact acc.inact.resolve_right fun h => Level.noConfusion h.1

theorem edgeBody_high_seq (pw : Level) (s : State) : (edgeBody .high .high pw s).seq = s.seq := by
  rw [edgeBody_wake_alone, checkWake_seq]

/-- With every line released an `EDGE` changes nothing. -/
theorem edgeBody_high (s : State) : edgeBody .high .high .high s = s := by
  rw [edgeBody_wake_alone, checkWake_high]

/-- Settles O34: only a low wake line clears `inact`, and neither a fault nor the wake-up writes it. -/
theorem adjustPressesDoNotKeepAwake : Obligations.AdjustPressesDoNotKeepAwake := by
  intro s t ph pm h
  cases exec_cases h with
  | idle => rfl
  | edge => rw [State.wake_inact, edgeBody_high_inact]

/-- A field that stands where its lines are released stands below the threshold too: there the body changes nothing. -/
theorem edgeBody_frame {α : Type} {f : State → α} {released : Prop}
    (hreleased : released → f (edgeBody ph pm pw s) = f s) (h : s.deb < debThreshold ∨ released) :
    f (edgeBody ph pm pw s) = f s :=
  h.elim (fun hd => congrArg f (edgeBody_of_lt hd ph pm pw)) hreleased

/-- Settles O35: a fault stops the `EDGE`; otherwise each field's frame, through the wake-up. -/
theorem edgeFrame : Obligations.EdgeFrame := by
  intro s t ph pm pw h
  cases exec_cases h with
  | idle => simp
  | edge =>
    refine ⟨by simp, by simp, by simp, by simp, by simp, by simp, by simp, ?hours, ?minutes, ?inact, ?deb, ?slots, ?mpc⟩
    case hours =>
      rw [State.wake_hours]
      exact edgeBody_frame (by rintro rfl; exact edgeBody_high_hours pm pw s)
    case minutes =>
      rw [State.wake_minutes]
      exact edgeBody_frame (by rintro rfl; exact edgeBody_high_minutes ph pw s)
    case inact =>
      rw [State.wake_inact]
      exact edgeBody_frame (by rintro rfl; exact edgeBody_high_inact ph pm s)
    case deb =>
      rw [State.wake_deb]
      exact edgeBody_frame (by rintro ⟨rfl, rfl, rfl⟩; rw [edgeBody_high])
    case slots =>
      intro hline a
      rw [State.wake_seq, edgeBody_frame (f := State.seq) (by rintro ⟨rfl, rfl⟩; exact edgeBody_high_seq pw s) hline]
    case mpc =>
      intro hp
      rw [wake_of_ne _ (by rwa [edgeBody_mpc]), edgeBody_mpc]

end Sys2Proof.Machine
end

section
/-! Where the two compositions agree (spec/42_input_debounce.md rule R145): below the threshold neither accepts, and a line alone is its own
check under both. -/

namespace Sys2Proof.Machine

variable {s : State} {ph pm pw : Level}

/-- The same state under another `EDGE_EVAL`. -/
def State.withEdgeEval (ev : EdgeEval) (s : State) : State := { s with cfg := { s.cfg with edgeEval := ev } }

theorem checksPar_withEdgeEval (ev : EdgeEval) (ph pm pw : Level) (s : State) :
    checksPar ph pm pw (s.withEdgeEval ev) = (checksPar ph pm pw s).withEdgeEval ev := by
  rw [checksPar_eq, checksPar_eq]
  rfl

theorem wake_withEdgeEval (ev : EdgeEval) (s : State) : (s.withEdgeEval ev).wake = s.wake.withEdgeEval ev := by
  rw [wake_eq, wake_eq]
  rfl

theorem checksSeq_of_lt (h : s.deb < debThreshold) (ph pm pw : Level) : checksSeq ph pm pw s = s :=
  (checksSeq_cases ph pm pw s).resolve_right fun acc => Nat.not_le.2 h acc.ready

theorem checksPar_of_lt (h : s.deb < debThreshold) (ph pm pw : Level) : checksPar ph pm pw s = s :=
  (checksPar_cases ph pm pw s).resolve_right fun acc => Nat.not_le.2 h acc.ready

/-- At most one line low, or `deb` below its threshold: the compositions agree. -/
theorem checksSeq_eq_checksPar
    (h : s.deb < debThreshold ∨ (ph = .high ∧ pm = .high) ∨ (ph = .high ∧ pw = .high) ∨ (pm = .high ∧ pw = .high)) :
    checksSeq ph pm pw s = checksPar ph pm pw s := by
  rcases h with hd | ⟨rfl, rfl⟩ | ⟨rfl, rfl⟩ | ⟨rfl, rfl⟩
  · rw [checksSeq_of_lt hd, checksPar_of_lt hd]
  · rw [checksSeq_wake_alone, checksPar_wake_alone]
  · rw [checksSeq_minutes_alone, checksPar_minutes_alone]
  · rw [checksSeq_hours_alone, checksPar_hours_alone]

/-- Where the compositions agree, either of them is the parallel one. -/
theorem edgeBody_eq_checksPar (h : checksSeq ph pm pw s = checksPar ph pm pw s) :
    edgeBody ph pm pw s = checksPar ph pm pw s := by
  cases hev : s.cfg.edgeEval with
  | seq => rw [edgeBody_of_seq hev, h]
  | par => rw [edgeBody_of_par hev]

/-- Settles O32: under either configuration the body is the parallel one, which commutes with the change of composition; a fault stops
both. -/
theorem compositionsAgreeOnOneLine : Obligations.CompositionsAgreeOnOneLine := by
  intro s ph pm pw ev hone
  by_cases hf : s.fault = none
  · have here := edgeBody_eq_checksPar (checksSeq_eq_checksPar hone)
    have there := edgeBody_eq_checksPar (s := s.withEdgeEval ev) (checksSeq_eq_checksPar hone)
    refine ⟨_, exec_edge_of_good hf ph pm pw,
      (exec_edge_of_good (s := s.withEdgeEval ev) hf ph pm pw).trans (congrArg Host.Outcome.next ?_)⟩
    rw [here, there, checksPar_withEdgeEval]
    exact wake_withEdgeEval ev _
  · exact ⟨s, congrArg Host.Outcome.next (serveHandler_of_fault _ s hf),
      congrArg Host.Outcome.next (serveHandler_of_fault _ (s.withEdgeEval ev) hf)⟩

end Sys2Proof.Machine
end

section
/-! The power family (spec/43_power.md rules R161 to R166): the gate's two outcomes, what ends a suspension, and the adjust press that does
not keep the block awake. -/

namespace Sys2Proof.Machine

variable {s : State}

/-! ## The gate (R161, R162) -/

theorem whenSelected_of_good {b : Bool} (hb : b = true) (op : State → State) (hf : s.fault = none) :
    whenSelected b op s = op s :=
  (if_pos hb).trans (unlessFaulted_of_none op s hf)

theorem gateStep_of_le (h : sleepThreshold ≤ s.inact) : gateStep s = sleepNow s :=
  if_pos ((sleepDue_iff _).2 h)

theorem exec_gate_of_gate (hf : s.fault = none) (hp : s.mpc = .gate) : exec .gate s = .next (gateStep s) :=
  congrArg Host.Outcome.next (whenSelected_of_good (beq_iff_eq.2 hp) gateStep hf)

theorem exec_sleepEntry_of_le (hf : s.fault = none) (hp : s.mpc = .gate) (hi : sleepThreshold ≤ s.inact) :
    exec .sleepEntry s = .next (sleepNow s) :=
  congrArg Host.Outcome.next
    (whenSelected_of_good (Bool.and_eq_true_iff.2 ⟨beq_iff_eq.2 hp, (sleepDue_iff _).2 hi⟩) sleepNow hf)

/-- At the inactivity threshold `STEP` goes to sleep. -/
theorem exec_step_of_closed_gate (hf : s.fault = none) (hp : s.mpc = .gate) (hi : sleepThreshold ≤ s.inact) :
    exec .step s = .next (sleepNow s) := by
  rw [exec_step_of_gate hf hp, gateStep_of_le hi]

/-- Settles O36: below the threshold both operations are the open gate. -/
theorem gateOpensBelowTheThreshold : Obligations.GateOpensBelowTheThreshold := by
  intro s hf hp hi
  refine ⟨?_, exec_step_of_open_gate hf hp hi⟩
  rw [exec_gate_of_gate hf hp, gateStep_of_lt hi]
  rfl

/-- Settles O37: at the threshold all three operations are the one sleep entry. -/
theorem gateSleepsAtTheThreshold : Obligations.GateSleepsAtTheThreshold := by
  intro s hf hp hi asleep
  refine ⟨?_, exec_sleepEntry_of_le hf hp hi, exec_step_of_closed_gate hf hp hi⟩
  rw [exec_gate_of_gate hf hp, gateStep_of_le hi]
  rfl

/-! ## While suspended (R163 to R165) -/

theorem exec_wakeup_of_good (hf : s.fault = none) : exec .wakeup s = .next s.wake :=
  congrArg Host.Outcome.next (unlessFaulted_of_none State.wake s hf)

/-- Settles O38: the two cases of the wake-up. -/
theorem wakeupLeavesSuspensionOnly : Obligations.WakeupLeavesSuspensionOnly := by
  intro s hf
  rw [exec_wakeup_of_good hf]
  exact ⟨fun hp => congrArg Host.Outcome.next (wake_of_susp s hp), fun hp => congrArg Host.Outcome.next (wake_of_ne s hp)⟩

/-- Settles O46: `MAIN` has no step at `SUSP`, and a fault stops it anyway. -/
theorem stepWhileSuspendedIsNoChange : Obligations.StepWhileSuspendedIsNoChange := by
  intro s hp
  refine congrArg Host.Outcome.next ?_
  rcases unlessFaulted_cases mainStep s with ⟨-, e⟩ | ⟨-, e⟩
  · rw [e, mainStep_of_susp hp]
  · exact e

/-- Settles O39: at `SUSP` the loop's step does nothing, its sub-operations are not selected, and the encoder, the adjusts and the checks
by themselves leave `mpc`. -/
theorem onlyHandlersAndResetEndSuspension : Obligations.OnlyHandlersAndResetEndSuspension := by
  intro i s t hp h hawake
  cases exec_cases h with
  | tick => exact .inl rfl
  | edge ph pm pw => exact .inr (.inl ⟨ph, pm, pw, rfl⟩)
  | wakeup => exact .inr (.inr (.inl rfl))
  | reset => exact .inr (.inr (.inr rfl))
  | idle => exact absurd hp hawake
  | step => exact absurd ((congrArg State.mpc (mainStep_of_susp hp)).trans hp) hawake
  | gate _ _ hsel | sleepEntry _ _ hsel | walk _ _ _ hsel | passEnd _ _ _ hsel | walkOverrun _ _ hsel =>
    exact Mpc.noConfusion (hp.symm.trans hsel)
  | encode | adjH | adjM | chkH | chkM | chkW => exact absurd (by simpa using hp) hawake

/-- A handler served at `SUSP` whose body leaves what the loop goes by resumes `MAIN` at `GATE`, the output untouched. -/
theorem serveHandler_of_susp {body : State → State} (hf : s.fault = none) (hp : s.mpc = .susp) (same : SameWalk s (body s)) :
    (serveHandler body s).mpc = .gate ∧ (serveHandler body s).port = s.port ∧ (serveHandler body s).trace = s.trace := by
  rw [serveHandler_of_none body s hf, wake_of_susp _ (same.mpc.trans hp)]
  exact ⟨rfl, same.port, same.trace⟩

/-- Settles O40: both bodies leave the position, the latch and the trace, and the return wakes. -/
theorem everyHandlerEndsSuspension : Obligations.EveryHandlerEndsSuspension := fun s hf hp =>
  ⟨⟨_, rfl, serveHandler_of_susp hf hp (sameWalk_tickBody s)⟩,
    fun ph pm pw => ⟨_, rfl, serveHandler_of_susp hf hp (sameWalk_edgeBody ph pm pw s)⟩⟩

/-! ## An adjust press in the dark (R166) -/

/-- An adjust press at `SUSP` wakes the block to its gate with `deb` cleared and `inact` as it stood. -/
theorem exec_edge_adjust_of_susp {ph pm : Level} (hf : s.fault = none) (hp : s.mpc = .susp) (hd : debThreshold ≤ s.deb)
    (hlow : ph = .low ∨ pm = .low) :
    ∃ t, exec (.edge ph pm .high) s = .next t ∧ t.fault = none ∧ t.mpc = .gate ∧ t.deb = 0 ∧ t.inact = s.inact ∧ t.cfg = s.cfg := by
  refine ⟨_, exec_edge_of_good hf ph pm .high, ?_⟩
  rw [wake_of_susp _ ((edgeBody_mpc ph pm .high s).trans hp)]
  exact ⟨(edgeBody_fault ph pm .high s).trans hf, rfl, edgeBody_deb_of_ready hd (hlow.imp_right .inl),
    edgeBody_high_inact ph pm s, edgeBody_cfg ph pm .high s⟩

/-- Settles O41: the press leaves `inact` at its threshold, so the gate it wakes to is closed and `STEP` sleeps again. -/
theorem adjustInTheDarkSleepsAgain : Obligations.AdjustInTheDarkSleepsAgain := by
  intro s ph pm hf hp hd hi hlow
  obtain ⟨t, hedge, hgood, hgate, hdeb, hinact, hcfg⟩ := exec_edge_adjust_of_susp hf hp hd.ge hlow
  have hsleep : exec .step t = .next (sleepNow t) := exec_step_of_closed_gate hgood hgate (hi.trans hinact.ge)
  exact ⟨t, sleepNow t, hedge, hsleep, hdeb, hgate, hinact, rfl, rfl, congrArg Config.idlePattern hcfg, rfl, rfl, rfl⟩

end Sys2Proof.Machine
end

section
/-! The display loop's operations one by one (spec/44_display_loop.md rules R181 to R184): the walk's three ends, and what `MAIN` writes and
reads. -/

namespace Sys2Proof.Machine

variable {s : State}

/-! ## The walk (R181 to R183) -/

/-- Emitting a slot of the buffer as one record update. -/
theorem emitSlot_eq {k : Nat} (hk : k < nSlots) (s : State) :
    emitSlot ⟨k, Nat.lt_succ_of_lt hk⟩ s =
      { s with
        port := readSlot s.seq k
        trace := s.trace ++ [readSlot s.seq k]
        mpc := .walk ⟨k + 1, Nat.succ_lt_succ hk⟩ } :=
  State.ext rfl rfl rfl rfl rfl rfl rfl (emitSlot_mpc_of_lt hk s) rfl rfl rfl rfl rfl

/-- `WALK` is selected at a slot of the buffer that holds a pattern. -/
theorem exec_walk_of_slot {k : Fin 12} (hf : s.fault = none) (hp : s.mpc = .walk k) (hk : k.val < nSlots)
    (hv : readSlot s.seq k.val ≠ sentinel) : exec .walk s = .next (emitSlot k s) := by
  rw [exec_walk_of_walk hp, whenSelected_of_good _ _ hf]
  exact Bool.and_eq_true_iff.2 ⟨decide_eq_true hk, bne_iff_ne.2 hv⟩

/-- `PASS_END` is selected at a slot of the buffer that holds the sentinel. -/
theorem exec_passEnd_of_sentinel {k : Fin 12} (hf : s.fault = none) (hp : s.mpc = .walk k) (hk : k.val < nSlots)
    (hv : readSlot s.seq k.val = sentinel) : exec .passEnd s = .next (endPass s) := by
  rw [exec_passEnd_of_walk hp, whenSelected_of_good _ _ hf]
  exact Bool.and_eq_true_iff.2 ⟨decide_eq_true hk, beq_iff_eq.2 hv⟩

/-- Settles O42: both operations are the emission of the slot. -/
theorem walkEmitsTheSlot : Obligations.WalkEmitsTheSlot := by
  intro s i hi hf hp hv emitted
  have hemit : emitSlot ⟨i, Nat.lt_succ_of_lt hi⟩ s = emitted := emitSlot_eq hi s
  rw [← hemit]
  exact ⟨exec_walk_of_slot hf hp hi hv, exec_step_of_slot hf hp hi hv⟩

/-- Settles O43: both operations are the end of the pass. -/
theorem sentinelEndsThePass : Obligations.SentinelEndsThePass := fun _ _ hi hf hp hv =>
  ⟨exec_passEnd_of_sentinel hf hp hi hv, exec_step_of_sentinel hf hp hi hv⟩

/-- Outside the buffer the loop's step is the fault. -/
theorem walkStep_last (s : State) : walkStep 11 s = s.raise .walkOverrun := if_neg (lt_irrefl nSlots)

/-- Settles O44: both operations raise the fault. -/
theorem walkPastTheBufferSetsTheFault : Obligations.WalkPastTheBufferSetsTheFault := by
  refine fun s hf hp => ⟨?overrun, ?step⟩
  case overrun => exact congrArg Host.Outcome.next (whenSelected_of_good (beq_iff_eq.2 hp) (State.raise .walkOverrun) hf)
  case step =>
    rw [exec_step_of_walk hf hp, walkStep_last]
    rfl

/-! ## What `MAIN` writes, and that it does not read the time of day (R184) -/

/-- The same state at another time of day: what `MAIN` would have to tell apart if it read the time. -/
def State.withTime (h m sec : Nat) (s : State) : State := { s with hours := h, minutes := m, seconds := sec }

theorem gateStep_withTime (h m sec : Nat) (s : State) : gateStep (s.withTime h m sec) = (gateStep s).withTime h m sec := by
  rcases gateStep_cases s with ⟨hi, e⟩ | ⟨hi, e⟩
  · rw [e, gateStep_of_le (s := s.withTime h m sec) hi]
    rfl
  · rw [e, gateStep_of_lt (s := s.withTime h m sec) hi]
    rfl

theorem walkStep_withTime (h m sec : Nat) (k : Fin 12) (s : State) :
    walkStep k (s.withTime h m sec) = (walkStep k s).withTime h m sec := by
  unfold walkStep
  rw [apply_ite (State.withTime h m sec), apply_ite (State.withTime h m sec)]
  rfl

theorem mainStep_withTime (h m sec : Nat) (s : State) : mainStep (s.withTime h m sec) = (mainStep s).withTime h m sec := by
  cases hp : s.mpc with
  | gate => rw [mainStep_of_gate hp, mainStep_of_gate (s := s.withTime h m sec) hp, gateStep_withTime]
  | walk k => rw [mainStep_of_walk hp, mainStep_of_walk (s := s.withTime h m sec) hp, walkStep_withTime]
  | susp => rw [mainStep_of_susp hp, mainStep_of_susp (s := s.withTime h m sec) hp]

/-- `MAIN`'s own fields apart, its step leaves the state. -/
theorem mainStep_writes (s : State) :
    mainStep s =
      { s with
        port := (mainStep s).port
        trace := (mainStep s).trace
        deb := (mainStep s).deb
        mpc := (mainStep s).mpc
        fault := (mainStep s).fault } :=
  State.ext (mainStep_cfg s) (mainStep_hours s) (mainStep_minutes s) (mainStep_seconds s) rfl (mainStep_inact s) (mainStep_seq s)
    rfl rfl rfl rfl (mainStep_stims s) (mainStep_envDraws s)

/-- Settles O48: with no fault set `STEP` is `MAIN`'s step, which has both properties; with one set it is the identity. -/
theorem mainOwnership : Obligations.MainOwnership := by
  intro s
  by_cases hf : s.fault = none
  · refine ⟨mainStep s, congrArg Host.Outcome.next (unlessFaulted_of_none mainStep s hf), mainStep_writes s, fun h m sec => ?_⟩
    have hmain : unlessFaulted mainStep (s.withTime h m sec) = mainStep (s.withTime h m sec) := unlessFaulted_of_none mainStep _ hf
    exact congrArg Host.Outcome.next (hmain.trans (mainStep_withTime h m sec s))
  · exact ⟨s, congrArg Host.Outcome.next (unlessFaulted_of_fault mainStep s hf), rfl,
      fun h m sec => congrArg Host.Outcome.next (unlessFaulted_of_fault mainStep (s.withTime h m sec) hf)⟩

end Sys2Proof.Machine
end

section
/-! With position 0 inert no walk leaves the buffer (spec/44_display_loop.md rule R183, spec/40_encoder.md rule R104): whatever sequence
stands, torn passes included, its slot 10 is the sentinel, so the walk ends there at the latest. -/

namespace Sys2Proof.Machine

variable {s t : State}

/-- Slot 10 of whatever sequence now stands ends the walk. -/
theorem NoOverrun.readSlot_ten (h : NoOverrun s) : readSlot s.seq 10 = sentinel := by
  obtain ⟨hr, mn, e⟩ := h.encoded
  obtain ⟨-, hten⟩ := inertPositionZeroKeepsTheSentinel s.cfg hr mn h.inert
  rwa [e]

/-- A slot that holds a pattern is not the last of the buffer. -/
theorem NoOverrun.lt_ten_of_pattern (h : NoOverrun s) {k : Nat} (hk : k < nSlots) (hv : readSlot s.seq k ≠ sentinel) : k < 10 :=
  lt_of_le_of_ne (Nat.le_of_lt_succ hk) fun hten => hv (hten ▸ h.readSlot_ten)

/-- The position of a walk is a slot of the buffer. -/
theorem NoOverrun.lt_of_walk (h : NoOverrun s) {k : Fin 12} (hp : s.mpc = .walk k) : k.val < nSlots :=
  lt_of_le_of_ne (Nat.le_of_lt_succ k.isLt) fun hk => h.inside (hp.trans (congrArg Mpc.walk (Fin.ext hk)))

/-- No fault, and the loop not at the overrun: the two clauses of `NoOverrun` that `MAIN` could break. -/
structure ClearOfOverrun (s : State) : Prop where
  inside : s.mpc ≠ .walk 11
  good : Good s

theorem NoOverrun.clear (h : NoOverrun s) : ClearOfOverrun s := ⟨h.inside, h.good⟩

theorem ClearOfOverrun.frame (h : ClearOfOverrun s) (hmpc : t.mpc = s.mpc) (hfault : t.fault = s.fault) : ClearOfOverrun t :=
  ⟨hmpc ▸ h.inside, hfault.trans h.good⟩

theorem ClearOfOverrun.setMpc (h : ClearOfOverrun s) {m : Mpc} (hm : m ≠ .walk 11) : ClearOfOverrun (s.setMpc m) := ⟨hm, h.good⟩

theorem ClearOfOverrun.wake (h : ClearOfOverrun s) : ClearOfOverrun s.wake := by
  rcases wake_cases s with ⟨-, e⟩ | ⟨-, e⟩
  · rw [e]; exact h.setMpc (by decide)
  · rwa [e]

theorem ClearOfOverrun.sleepNow (h : ClearOfOverrun s) : ClearOfOverrun (sleepNow s) := ⟨Mpc.noConfusion, h.good⟩

theorem ClearOfOverrun.gateStep (h : ClearOfOverrun s) : ClearOfOverrun (gateStep s) := by
  rcases gateStep_cases s with ⟨-, e⟩ | ⟨-, e⟩
  · rw [e]; exact h.sleepNow
  · rw [e]; exact h.setMpc (by decide)

theorem ClearOfOverrun.endPass (h : ClearOfOverrun s) : ClearOfOverrun (endPass s) := ⟨Mpc.noConfusion, h.good⟩

/-- A slot with a pattern stands before slot 10, so the position after it is still inside the buffer. -/
theorem NoOverrun.clear_emitSlot (h : NoOverrun s) {k : Fin 12} (hk : k.val < nSlots) (hv : readSlot s.seq k.val ≠ sentinel) :
    ClearOfOverrun (emitSlot k s) := by
  have hten : k.val < 10 := h.lt_ten_of_pattern hk hv
  refine ⟨fun hlast => ?_, h.good⟩
  have hnext : k.val + 1 = 11 := congrArg Fin.val (Mpc.walk.inj ((emitSlot_mpc_of_lt hk s).symm.trans hlast))
  omega

theorem NoOverrun.clear_walkStep (h : NoOverrun s) {k : Fin 12} (hp : s.mpc = .walk k) : ClearOfOverrun (walkStep k s) := by
  have hk := h.lt_of_walk hp
  rw [walkStep, if_pos hk]
  split
  · exact h.clear_emitSlot hk ‹_›
  · exact h.clear.endPass

theorem NoOverrun.clear_mainStep (h : NoOverrun s) : ClearOfOverrun (mainStep s) := by
  cases hp : s.mpc with
  | gate => rw [mainStep_of_gate hp]; exact h.clear.gateStep
  | walk k => rw [mainStep_of_walk hp]; exact h.clear_walkStep hp
  | susp => rw [mainStep_of_susp hp]; exact h.clear

/-- No effect reaches the overrun from a state clear of it: only the loop moves the walk on, and it has slot 10 before it. -/
theorem Effect.clearOfOverrun {i : Instr} (he : Effect i s t) (h : NoOverrun s) : ClearOfOverrun t := by
  cases he with
  | idle => exact h.clear
  | reset => exact ⟨Mpc.noConfusion, rfl⟩
  | tick => exact (h.clear.frame (tickBody_mpc s) (tickBody_fault s)).wake
  | edge ph pm pw => exact (h.clear.frame (edgeBody_mpc ph pm pw s) (edgeBody_fault ph pm pw s)).wake
  | step => exact h.clear_mainStep
  | gate => exact h.clear.gateStep
  | sleepEntry => exact h.clear.sleepNow
  | wakeup => exact h.clear.wake
  | walk k _ _ _ hk hv => exact h.clear_emitSlot hk hv
  | passEnd => exact h.clear.endPass
  | walkOverrun _ _ hp => exact absurd hp h.inside
  | encode | adjH | adjM | chkH | chkM | chkW => exact h.clear.frame (by simp) (by simp)

/-- Every effect keeps the invariant: the table stands, and `SEQ` stays the image of some `Encode(h, m)`. -/
theorem Effect.noOverrun {i : Instr} (he : Effect i s t) (h : NoOverrun s) : NoOverrun t := by
  obtain ⟨hinside, hgood⟩ := he.clearOfOverrun h
  exact
    { inert := by rw [he.cfg]; exact h.inert
      encoded := he.seqEncoded h.encoded
      inside := hinside
      good := hgood }

/-- Taking the next stimulus keeps the invariant: it writes none of the block's fields. -/
theorem NoOverrun.takeWord (h : NoOverrun s) : NoOverrun (takeWord s) where
  inert := by rw [takeWord_cfg]; exact h.inert
  encoded := h.encoded.frame (takeWord_cfg s) (takeWord_seq s)
  inside := by rw [takeWord_mpc]; exact h.inside
  good := (takeWord_fault s).trans h.good

/-- Settles O59: a step is the effect of a stimulus on the state with that stimulus taken. -/
theorem noStepOverrunsTheBuffer : Obligations.NoStepOverrunsTheBuffer := by
  intro s t h hstep
  obtain ⟨-, he⟩ := step_effect hstep
  exact he.noOverrun h.takeWord

end Sys2Proof.Machine
end

section
/-! A whole pass served as steps (spec/44_display_loop.md rules R181, R182, R188, log entry 4): the gate opens, each `STEP` emits one slot,
and the sentinel ends the pass. -/

namespace Sys2Proof.Machine

variable {s : State} {ws : List StimWord}

/-- A step that finds a `STEP` lined up runs it. -/
theorem step_of_stepWord (hw : s.cfg.widthsOk = true) (e : s.stims = 0x07#5 :: ws) :
    step s = exec .step { s with stims := ws } := by
  rw [step_of_stims hw e, decodeWord_of_kind_zero rfl]

/-- The state at `WALK(k)` after a pass has emitted its first `k` slots, with `ws` still lined up. -/
def walked (k : Fin 12) (ws : List StimWord) (s : State) : State :=
  { s with
    port := if k.val = 0 then s.port else readSlot s.seq (k.val - 1)
    trace := s.trace ++ (List.range k.val).map (readSlot s.seq)
    mpc := .walk k
    stims := ws }

/-- Before the first slot only the gate has opened. -/
theorem walked_zero (ws : List StimWord) (s : State) : walked 0 ws s = { s with stims := ws }.setMpc (.walk 0) := by
  simp [walked, State.setMpc]

/-- Emitting the next slot leads from `k` slots emitted to `k + 1`. -/
theorem emitSlot_walked {k : Nat} (hk : k < nSlots) (ws : List StimWord) (s : State) :
    emitSlot ⟨k, Nat.lt_succ_of_lt hk⟩ (walked ⟨k, Nat.lt_succ_of_lt hk⟩ ws s) = walked ⟨k + 1, Nat.succ_lt_succ hk⟩ ws s := by
  rw [emitSlot_eq hk]
  simp [walked, List.range_succ]

theorem step_walked (hw : s.cfg.widthsOk = true) (k : Fin 12) (ws : List StimWord) :
    step (walked k (0x07#5 :: ws) s) = exec .step (walked k ws s) :=
  step_of_stepWord (s := walked k (0x07#5 :: ws) s) hw rfl

/-- From an open gate, one `STEP` and `k` more emit the first `k` slots, when each of them holds a pattern. -/
theorem runSteps_walked (hw : s.cfg.widthsOk = true) (hf : s.fault = none) (hp : s.mpc = .gate) (hi : s.inact < sleepThreshold)
    {k : Nat} (hk : k < 12) (hpat : ∀ i, i < k → readSlot s.seq i ≠ sentinel) (e : s.stims = List.replicate (k + 1) 0x07#5 ++ ws) :
    runSteps (k + 1) s = .next (walked ⟨k, hk⟩ ws s) := by
  induction k generalizing ws with
  | zero =>
    have hopen : step s = .next (walked 0 ws s) := by
      rw [step_of_stepWord hw e, walked_zero]
      exact exec_step_of_open_gate (s := { s with stims := ws }) hf hp hi
    exact runSteps_succ hopen 0
  | succ k ih =>
    have hin : k < nSlots := Nat.lt_of_succ_lt_succ hk
    have hfirst : runSteps (k + 1) s = .next (walked ⟨k, Nat.lt_succ_of_lt hin⟩ (0x07#5 :: ws) s) :=
      ih (Nat.lt_succ_of_lt hin) (fun i hik => hpat i (Nat.lt_succ_of_lt hik))
        (by rw [e, List.replicate_succ', ← List.append_cons])
    have hemit : step (walked ⟨k, Nat.lt_succ_of_lt hin⟩ (0x07#5 :: ws) s) = .next (walked ⟨k + 1, hk⟩ ws s) := by
      rw [step_walked hw, ← emitSlot_walked hin ws s]
      exact exec_step_of_slot (s := walked ⟨k, Nat.lt_succ_of_lt hin⟩ ws s) hf rfl hin (hpat k (Nat.lt_succ_self k))
    rw [runSteps_add hfirst 1, runSteps_succ hemit 0, runSteps_zero]

/-- Settles O47: `n + 1` steps bring the walk to the sentinel, and one more ends the pass at the gate it began at. -/
theorem passEmitsTheSequenceOnce : Obligations.PassEmitsTheSequenceOnce := by
  intro s n rest hw hf hp hi hn hpat hend e
  have hin : n < nSlots := Nat.lt_succ_of_le hn
  have hwords : s.stims = List.replicate (n + 1) 0x07#5 ++ 0x07#5 :: rest := by
    rw [e, passWords, List.replicate_succ', ← List.append_cons]
  have hlast : step (walked ⟨n, Nat.lt_succ_of_lt hin⟩ (0x07#5 :: rest) s) =
      .next (endPass (walked ⟨n, Nat.lt_succ_of_lt hin⟩ rest s)) := by
    rw [step_walked hw]
    exact exec_step_of_sentinel (s := walked ⟨n, Nat.lt_succ_of_lt hin⟩ rest s) hf rfl hin hend
  calc runSteps (n + 2) s
      = runSteps 1 (walked ⟨n, Nat.lt_succ_of_lt hin⟩ (0x07#5 :: rest) s) :=
        runSteps_add (runSteps_walked hw hf hp hi (Nat.lt_succ_of_lt hin) hpat hwords) 1
    _ = .next (endPass (walked ⟨n, Nat.lt_succ_of_lt hin⟩ rest s)) := runSteps_succ hlast 0
    _ = _ := by
        rw [hp]
        rfl

end Sys2Proof.Machine
end

section
/-! The exceptions family (spec/60_exceptions.md rule R201): a fault holds the whole state until `RESET`. -/

namespace Sys2Proof.Machine

/-- Under a fault the only effect left to an operation other than `RESET` is the idle one: every other effect asks for no fault. -/
theorem Effect.eq_of_fault {i : Instr} {s t : State} (he : Effect i s t) (hf : s.fault ≠ none) (hreset : i ≠ .reset) : t = s := by
  cases he with
  | idle => rfl
  | reset => exact absurd rfl hreset
  | _ => exact absurd ‹s.fault = none› hf

/-- Settles O45: the next state is an effect of the operation, and a fault leaves only the idle one. -/
theorem faultIsStickyUntilReset : Obligations.FaultIsStickyUntilReset := by
  intro i s hf hreset
  obtain ⟨t, hexec, heffect⟩ := exec_effect i s
  rw [hexec, heffect.eq_of_fault hf hreset]

end Sys2Proof.Machine
end

section
/-! `RESET` as an operation (spec/70_reset_and_hazards.md rule R240): power-on in any state, a suspended or faulted one included. -/

namespace Sys2Proof.Machine

theorem exec_reset (s : State) : exec .reset s = .next s.powerOn := rfl

/-- The cleared buffer reads the sentinel in every slot. -/
theorem readSlot_powerOn (s : State) (a : Nat) : readSlot s.powerOn.seq a = sentinel := by
  rw [State.powerOn_seq]
  rfl

/-- Settles O55: `RESET` is power-on, which neither looks at the state's phase nor at its fault, and takes the latch from the
configuration. -/
theorem resetCompletesInAnyState : Obligations.ResetCompletesInAnyState := fun s =>
  ⟨s.powerOn, exec_reset s, atReset_powerOn s, readSlot_powerOn s,
    s.powerOn_port, s.powerOn_cfg, s.powerOn_stims, s.powerOn_envDraws⟩

end Sys2Proof.Machine
end
